-- ==== Sys2Proof/Config.lean ====
section
/-! DEFINITION. The numbered parameters of spec/00_scope.md rule R6. Every other definition takes its widths and counts from here, with
`(delta% Config.x)`, which stands for the number `Config.x` is: a parameter that is changed here is changed everywhere. -/

namespace Sys2Proof

namespace Config

/-- Samples per second on the consumer port (R6); timing only. -/
def sampleRate : Nat := 48000
/-- Peak value of zero-tone (R6, R71). -/
def amplitude : Nat := 30000
/-- Samples per slot (R6). -/
def slotLen : Nat := 10
/-- Start slots of a waveform (R6, R52). -/
def nStart : Nat := 1
/-- Data slots of a waveform (R6, R52). -/
def nData : Nat := 8
/-- Stop slots of a waveform (R6, R52). -/
def nStop : Nat := 3
/-- Slots per waveform (R6). -/
def nSlots : Nat := 12
/-- Samples per waveform and per emitted block (R6). -/
def blockLen : Nat := 120
/-- Index of a block's last sample. -/
def lastSample : Nat := 119
/-- Width of a sample (R6). -/
def sampleBits : Nat := 16
/-- Valid symbols: 256 bytes, silence, idle-carrier (R6, R80). -/
def nSymbols : Nat := 258
/-- Capacity of the TransferQueue (R6, R96). -/
def queueSlots : Nat := 16
/-- Width of a cursor (R6, D5): an index into the slots and a wrap bit. -/
def cursorBits : Nat := 5
/-- Symbol code of "silence" (R6, R53, D3). -/
def symSilence : BitVec 9 := 0x100#9
/-- Symbol code of "idle-carrier" (R6, R53, D3). -/
def symIdle : BitVec 9 := 0x101#9
/-- Nominal tick period in microseconds (R6, R170): `BLOCK_LEN / SAMPLE_RATE`; timing only, no rule depends on it. -/
def tickPeriodMicros : Nat := blockLen * 1000000 / sampleRate
/-- Level B: flip-flops per synchroniser (R6, D8). -/
def syncStages : Nat := 2

/-- What an enqueue on a full queue can do; this hardware rejects (R6, R99, D6). -/
inductive OverflowPolicy where
  | reject
  deriving DecidableEq, Repr

/-- `OVERFLOW_POLICY` (R6, D6). -/
def overflowPolicy : OverflowPolicy := .reject

/-- The relations R6's table states between its rows. -/
theorem parameters_agree :
    nStart + nData + nStop = nSlots ∧ blockLen = nSlots * slotLen ∧ lastSample + 1 = blockLen ∧ nSymbols = 2 ^ nData + 2 ∧
    2 ^ cursorBits = 2 * queueSlots ∧ tickPeriodMicros = 2500 := by decide

end Config

end Sys2Proof
end

