-- ==== Sys2Proof/Word.lean ====
section
/-! DEFINITION. The data types of tapesim-core: samples, tones, blocks, symbols, cursors, operation words
(spec/30_encoding.md, spec/00_scope.md rule R8), with the widths and counts of Config.lean (R6). -/

namespace Sys2Proof

/-- A sample, signed 16-bit two's complement (R50). Bits, because the byte view and the negation work on the pattern. -/
abbrev Sample := BitVec (delta% Config.sampleBits)

/-- A byte of a batch, and one byte of the consumer port's view of a block (R51). -/
abbrev Byte := BitVec 8

/-- The 9-bit operand of an operation word and the 9-bit symbol code (R53, R59). -/
abbrev SymCode := BitVec 9

/-- A queue cursor: bit 4 is the wrap bit, bits 3 to 0 the slot index (R57). Its arithmetic is modulo 32 (R8). -/
abbrev Cursor := BitVec (delta% Config.cursorBits)

/-- An operation word, 13 bits: opid in bits 12 to 9, arg in bits 8 to 0 (R59, R62). -/
abbrev OpWord := BitVec 13

/-- One elementary tone, 10 samples (R13). -/
abbrev Tone := Vector Sample (delta% Config.slotLen)

/-- A block: exactly 120 samples (R8, R9). -/
abbrev Block := Vector Sample (delta% Config.blockLen)

/-- A symbol: "either a literal byte (0–255) or a special marker" (R53, R80). -/
inductive Symbol where
  | byte (b : Byte)
  | silence
  | idle
  deriving DecidableEq, Repr

/-- The cached record of one symbol: the waveform, its negation and the continuity flag (R14, R86, R87). -/
structure CachedSample where
  a : Block
  b : Block
  cont : Bool
  deriving DecidableEq, Repr

end Sys2Proof
end

