-- ==== Sys2Proof/Params.lean ====
section
/-! DEFINITION. The parameters a claim may quantify over (decisions D2, D4, D7) and the one free value of the machine (the slot contents a
RESET leaves, U1). -/

namespace Sys2Proof

/-- FREE VALUE (log 4): what the slot with the given index holds after the n-th RESET. R155: "SLOT[0..15] <- unspecified",
U1: any value. It has no body, so no proof can learn a value of it. -/
opaque Config.freeSlot : Nat → Nat → Block

/-- The parameters that R13, R26 and the list "Open parameters" of 92_eei_decisions.md leave to be chosen for a machine: the two
tone ROMs and the reset values of `lastSense` and `carrier`. They are constant data of a machine (log 2). -/
structure Params where
  tone0 : Tone
  tone1 : Tone
  lastSenseReset : Bool
  carrierReset : Bool
  deriving DecidableEq, Repr

end Sys2Proof
end

