-- ==== Sys2Proof/Machine/WaveformTable.lean ====
section
/-! DEFINITION. WaveformTable: the tone ROM and the two fixed patterns (spec/40_waveform_table.md), with the sample-wise
negation they need. -/

namespace Sys2Proof.Machine

/-- Zero-tone, R73; its peak is `AMPLITUDE` (R71). DESIGN CHOICE of the spec (D2): rounded to nearest. -/
def tone0Default : Tone :=
  #v[0#16, 9271#16, 17634#16, 24271#16, 28532#16, BitVec.ofNat 16 (delta% Config.amplitude), 28532#16, 24271#16, 17634#16, 9271#16]

/-- One-tone, R73. -/
def tone1Default : Tone :=
  #v[0#16, 8817#16, 14266#16, 14266#16, 8817#16, 0#16, -8817#16, -14266#16, -14266#16, -8817#16]

/-- The defaults of the three open parameters: R73's ROM, `lastSense` and `carrier` reset to 0 (R28, D2, D4, D7). -/
def standardParams : Params :=
  { tone0 := tone0Default, tone1 := tone1Default, lastSenseReset := false, carrierReset := false }

/-- `ToneRead(t, i)` (R30): sample `i` of tone ROM `t`. -/
def toneRead (p : Params) (t : Bool) (i : Fin (delta% Config.slotLen)) : Sample := if t then p.tone1[i] else p.tone0[i]

/-- A sequence of 120 samples as a block. -/
def blockOfList (l : List Sample) (h : l.length = (delta% Config.blockLen)) : Block := ⟨⟨l⟩, h⟩

/-- Sample-wise negation of a sequence, R8: `neg(s)[k] = -s[k]`. -/
def negList (l : List Sample) : List Sample := l.map (fun x => -x)

/-- Sample-wise negation of a block (R86). -/
def negBlock (blk : Block) : Block := blockOfList (negList blk.toList) (by simp [negList])

/-- A tone's samples, negated when the sense is 1 (R83). -/
def signedTone (t : Tone) (sense : Bool) : List Sample := if sense then negList t.toList else t.toList

/-- `rep(n, s)` (R8). -/
def rep (n : Nat) (l : List Sample) : List Sample := (List.replicate n l).flatten

theorem signedTone_length (t : Tone) (sense : Bool) : (signedTone t sense).length = (delta% Config.slotLen) := by
  unfold signedTone; split <;> simp [negList]

/-- The silence pattern: 120 zeros (R75). -/
def silenceWf : Block := blockOfList (List.replicate (delta% Config.blockLen) 0#16) (by simp)

/-- The idle-carrier pattern: six times zero-tone, negated zero-tone (R76). -/
def idleWf (p : Params) : Block :=
  blockOfList (rep 6 (signedTone p.tone0 false ++ signedTone p.tone0 true))
    (by simp [rep, signedTone_length])

end Sys2Proof.Machine
end

