-- ==== Sys2Proof/Machine/State.lean ====
section
/-! DEFINITION. The state of tapesim-core: spec/10_state.md rule R10 (Level A), rule R23 (Level B), the ports' registered outputs
(spec/30_encoding.md R65, R66) and the model's own fields (the requests to come, the last answer). INVENTORY.md lists every field. -/

namespace Sys2Proof.Machine

/-- The three output states of the sequencer (R21, R56). Code 3 is never produced, so the type does not contain it (U13). -/
inductive SeqState where
  | silent
  | carrierIdle
  | draining
  deriving DecidableEq, Repr

/-- The status of an answer (R60). Codes 5 to 7 are never produced (U13). -/
inductive Status where
  | ok
  | full
  | badSym
  | badCmd
  | empty
  deriving DecidableEq, Repr

/-- Who takes a step (R7, R145). `other` is any caller besides these four: a second producer or consumer (R141, R165). -/
inductive Agent where
  | producer
  | consumer
  | crossing
  | host
  | other
  deriving DecidableEq, Repr

/-- The P clock's inputs at one edge (R65). -/
structure PPins where
  valid : Bool
  cmd : OpWord
  deriving DecidableEq, Repr

/-- The C clock's inputs at one edge (R66); `pause` is a cycle of the emission without a sample (log 21). -/
structure CPins where
  tick : Bool
  pause : Bool
  deriving DecidableEq, Repr

/-- How two edges that fall together meet: who reaches `lastSense` first (R49), and whether each first synchroniser stage samples
the new value of what changes at that instant or the old one (R48). -/
structure CrossChoice where
  pFirst : Bool
  rdNew : Bool
  wrNew : Bool
  carrierNew : Bool
  deriving DecidableEq, Repr

/-- One request or step still to come (log 6). -/
inductive Turn where
  /-- The agent performs the operation the word names, in the way R58 gives it (trace notation R63). `choice` settles how far a
  SYNCW or SYNCR moves its view (R38, R39). -/
  | op (who : Agent) (word : OpWord) (choice : Nat)
  /-- Any 13-bit word, offered on the producer port (R61, R172). -/
  | port (who : Agent) (word : OpWord)
  /-- The caller starts SEND_BYTES with a batch (R124). -/
  | sendBytes (who : Agent) (bytes : List Byte)
  /-- P takes the next step of the SEND_BYTES in progress (R124, R125). -/
  | sendBytesStep
  /-- The caller abandons its SEND_BYTES between two of its steps (R172). -/
  | dropBatch
  /-- C performs DEQ, that is PEEK and then ADVR if a block came (R64). -/
  | deq
  /-- P performs TOGC, that is SETC of the opposite of `carrier` (R64). -/
  | togc
  /-- Level B: an edge of the P clock (R48). -/
  | pClk (pins : PPins)
  /-- Level B: an edge of the C clock (R48). -/
  | cClk (pins : CPins)
  /-- Level B: an edge of each clock at the same instant (R48, R143). -/
  | bothClk (pins : PPins) (cpins : CPins) (cross : CrossChoice)
  /-- Level B: the reset pin goes to the given level (R65, R155). -/
  | resetPin (level : Bool)
  /-- Level B: reset initialisation has finished (R24, R172). -/
  | initDone
  deriving DecidableEq, Repr

/-- What the last step showed (R25). `response` is the producer port's word of R60; `status` the internal interface's status;
`returned` the block FETCH, PEEK or DEQ gives back; `record` BUILD's result; `emitted` the consumer port's block with its continue
signal (R118). -/
inductive Output where
  | quiet
  | response (rsp : BitVec 5)
  | status (st : Status)
  | returned (blk : Block)
  | record (rec : CachedSample)
  | emitted (blk : Block) (cont : Bool)
  deriving DecidableEq, Repr

/-- Where the caller's SEND_BYTES loop stands (R124): spinning on ISDR, or about to SEND the next byte. -/
inductive BatchPhase where
  | waitDrain
  | send
  deriving DecidableEq, Repr

/-- A SEND_BYTES in progress: its phase and the bytes still to send (R124). -/
structure Batch where
  phase : BatchPhase
  rest : List Byte
  deriving DecidableEq, Repr

/-- Reasons the machine stops with a fault. There are none: the block has no traps (R136, R142), errors are answers (R135), and
TICK has "no error channel" (R115). No constructor, so `fault` can never be answered. Safe. -/
inductive Fault where
  deriving DecidableEq, Repr

/-- Runs to which the spec gives no meaning (R141, "Refused" in R9). All are safe: nothing can be proved of such a run. -/
inductive Refusal where
  /-- An operation without a meaning in this model. Raised by no arm. Safe. -/
  | notModelled (mnemonic : String)
  /-- An agent asked for an operation that is not in its row of R145: R141 (a), (b), (d). Raised by step. Safe. -/
  | notPermitted
  /-- Something P or C is asked for while `ready = 0`, a command or a tick: R141 (c). Raised by step and by a clock edge. Safe. -/
  | notReady
  /-- A tick, or another operation of C, while a block is being emitted: R66, R141 (c). Raised by step and by a C clock edge. Safe. -/
  | tickWhileBusy
  /-- An operation turn whose word names no operation; on the producer port such a word is answered BADCMD instead. Raised by step. Safe. -/
  | reservedWord
  /-- A producer-port operation performed while `hold` is not empty: R131, "the producer port accepts no other command". Raised by
  the meanings of SEND, SETC and ISDR; step never performs one then. Safe. -/
  | portBusy
  deriving DecidableEq, Repr

/-- The whole state. The comment of each field names the element of the spec it is. -/
structure State where
  -- Level A (R10)
  /-- `TONE0`, `TONE1` and the reset parameters: constant (R13, log 2). -/
  params : Params
  /-- `lastSense`, PhaseState (R15). -/
  lastSense : Bool
  /-- `SLOT[0..15]` (R16). -/
  slots : Vector Block (delta% Config.queueSlots)
  /-- `wr` (R17). -/
  wr : Cursor
  /-- `rd` (R18). -/
  rd : Cursor
  /-- `wr_c`, C's view of `wr` (R19); also `ungray(wr_gray_s[2])` (R23). -/
  wrC : Cursor
  /-- `rd_p`, P's view of `rd` (R19); also `ungray(rd_gray_s[2])` (R23). -/
  rdP : Cursor
  /-- `carrier` (R20). -/
  carrier : Bool
  /-- `carrier_c` (R20); also `carrier_s[2]` (R23). -/
  carrierC : Bool
  /-- `seqState` (R21). -/
  seqState : SeqState
  /-- `hold`, P's holding register (R131). -/
  hold : Option Block
  -- Level B (R23, R24)
  /-- `wr_gray`. -/
  wrGray : Cursor
  /-- `rd_gray`. -/
  rdGray : Cursor
  /-- `wr_gray_s[1]`. -/
  wrGrayS1 : Cursor
  /-- `rd_gray_s[1]`. -/
  rdGrayS1 : Cursor
  /-- `carrier_s[1]`. -/
  carrierS1 : Bool
  /-- `sidx`, index of the next sample of the block being emitted. -/
  sidx : Fin (delta% Config.blockLen)
  /-- `src`, source of the block being emitted. -/
  src : SeqState
  /-- `pol`, variant chosen by the FETCH of the block being emitted. -/
  pol : Bool
  /-- `busy`, a block is being emitted. -/
  busy : Bool
  /-- `ready`, reset initialisation has finished. -/
  ready : Bool
  /-- Level of the pin `rst_n` (R65). -/
  rstN : Bool
  /-- Samples of the running SEND already in its slot (R110, log 17). -/
  sendIdx : Fin ((delta% Config.blockLen) + 1)
  /-- `p_rsp_valid` (R65). -/
  pRspValid : Bool
  /-- `p_rsp` (R65). -/
  pRsp : BitVec 5
  /-- `c_valid` (R66). -/
  cValid : Bool
  /-- `c_data` (R66). -/
  cData : Sample
  /-- `c_last` (R66). -/
  cLast : Bool
  -- the model's own
  /-- The block on the internal data path (R98, log 5). -/
  dataPath : Block
  /-- A TICK has read the old `carrier` since it last changed (R40, log 9). -/
  staleTick : Bool
  /-- How far the next SYNCW or SYNCR goes beyond one step (R38, R39, log 7). -/
  choice : Nat
  /-- How many free slot contents RESET has drawn (log 4). -/
  freeCount : Nat
  /-- The caller's SEND_BYTES in progress (R124, log 15). -/
  batch : Option Batch
  /-- The requests and steps still to come, the next one first (log 6). -/
  turns : List Turn
  /-- What the last step showed (R25, log 11). -/
  out : Output
  deriving DecidableEq, Repr

/-- Every element at its reset value (R28, and the reset column of R23), with the given parameters and slot contents. Fields to
which the spec gives no reset value: `slots` log 3 and 4, `dataPath` log 5, `rstN` log 22, `sendIdx` and the port registers log 17.
Where the parameter `carrierReset` is not its default 0, `carrier_s[1]` follows it, as `carrier_c` does by U5: a choice of the model's,
R23 prints 0 and U5 does not name this stage (log 35). -/
def State.initial (p : Params) (slots : Vector Block (delta% Config.queueSlots)) : State :=
  { params := p, lastSense := p.lastSenseReset, slots := slots, wr := 0#5, rd := 0#5, wrC := 0#5, rdP := 0#5,
    carrier := p.carrierReset, carrierC := p.carrierReset, seqState := .silent, hold := none,
    wrGray := 0#5, rdGray := 0#5, wrGrayS1 := 0#5, rdGrayS1 := 0#5, carrierS1 := p.carrierReset,
    sidx := 0, src := .silent, pol := false, busy := false, ready := true, rstN := true, sendIdx := 0,
    pRspValid := false, pRsp := 0#5, cValid := false, cData := 0#16, cLast := false,
    dataPath := silenceWf, staleTick := false, choice := 0, freeCount := 0, batch := none, turns := [], out := .quiet }

/-- The machine right after reset, with the default parameters (R28) and, as DESIGN CHOICE of log 3, zeros in every slot. -/
def State.reset : State := State.initial standardParams (Vector.replicate (delta% Config.queueSlots) silenceWf)

end Sys2Proof.Machine
end

