-- ==== Sys2Proof/Machine/Operands.lean ====
section
/-! DEFINITION. Operand forms: symbol codes, the slot index of a cursor, the bits of a byte, the gray code, and the byte view of
samples and blocks (spec/30_encoding.md R51 to R57). -/

namespace Sys2Proof.Machine

/-- The symbol of a 9-bit code, none for `0x102` to `0x1FF` (R53). -/
def symbolOf (sym : SymCode) : Option Symbol :=
  if sym.toNat < 0x100 then some (.byte (sym.setWidth 8))
  else if sym = Config.symSilence then some .silence
  else if sym = Config.symIdle then some .idle
  else none

/-- The 9-bit code of a symbol (R53). -/
def symbolCode : Symbol → SymCode
  | .byte b => b.setWidth 9
  | .silence => Config.symSilence
  | .idle => Config.symIdle

/-- SEND's operand: a byte when `arg[8] = 0`, otherwise malformed (R59, R61, R122). -/
def byteOf (arg : SymCode) : Option Byte :=
  if arg[8] then none else some (arg.setWidth 8)

/-- The eight bits of a byte, least significant first: the order of the data slots (R54). -/
def dataBits (b : Byte) : List Bool := (List.range (delta% Config.nData)).map (fun i => b.getLsbD i)

/-- The number of 1 bits of a byte (R8). -/
def popcount (b : Byte) : Nat := (dataBits b).count true

/-- The slot a cursor designates: its low four bits (R57, R96). -/
def slotIndex (c : Cursor) : Fin (delta% Config.queueSlots) := ⟨c.toNat % (delta% Config.queueSlots), Nat.mod_lt _ (by decide)⟩

/-- `gray(b) = b xor (b >> 1)` on 5 bits (R55). -/
def gray (b : Cursor) : Cursor := b ^^^ (b >>> 1)

/-- The inverse of `gray`: bit 4 is `g[4]`, and bit `i` is `g[i] xor result[i+1]` (R55). -/
def ungray (g : Cursor) : Cursor :=
  let b4 := g.getLsbD 4
  let b3 := g.getLsbD 3 ^^ b4
  let b2 := g.getLsbD 2 ^^ b3
  let b1 := g.getLsbD 1 ^^ b2
  let b0 := g.getLsbD 0 ^^ b1
  BitVec.ofBool b4 ++ BitVec.ofBool b3 ++ BitVec.ofBool b2 ++ BitVec.ofBool b1 ++ BitVec.ofBool b0

/-- The 2-bit code of an output state, used by `seqState` and `src` (R56). -/
def SeqState.code : SeqState → BitVec 2
  | .silent => 0#2
  | .carrierIdle => 1#2
  | .draining => 2#2

/-- The two bytes of a sample, bits 7 to 0 first (R31, R51). -/
def sampleBytes (s : Sample) : List Byte := [s.extractLsb' 0 8, s.extractLsb' 8 8]

/-- The sample of two bytes: `sext_16({byte1, byte0})` (R51). -/
def sampleOfBytes (byte0 byte1 : Byte) : Sample := byte1 ++ byte0

/-- The 240 bytes of a block as the device layer receives it (R31, R51, R118). -/
def blockBytes (blk : Block) : List Byte := (blk.toList.map sampleBytes).flatten

/-- The samples read back from a byte view, two bytes each (R51). -/
def samplesOfBytes : List Byte → List Sample
  | byte0 :: byte1 :: rest => sampleOfBytes byte0 byte1 :: samplesOfBytes rest
  | [_] => []
  | [] => []

end Sys2Proof.Machine
end

