-- ==== Sys2Proof/Machine/Flags.lean ====
section
/-! DEFINITION. The block's one-bit facts: continuity flag, variant choice and phase update, queue predicates on cursors and on gray
codes, the sequencer's decision, and the response word (spec/10_state.md R22, 41 R87, R89, 42 R97, 43 R116, 30 R60, 20 R48). -/

namespace Sys2Proof.Machine

/-- Continuity flag: the waveform's last sample is non-negative, as a signed comparison (R87). -/
def contFlag (a : Block) : Bool := (0#16).sle a[(delta% Config.lastSample)]

/-- The variant that a value of `lastSense` selects: A for 0, B for 1 (R15, R89). -/
def variantOf (rec : CachedSample) (sense : Bool) : Block := if sense then rec.b else rec.a

/-- `lastSense xor cont` (R89). -/
def phaseAfter (sense cont : Bool) : Bool := sense ^^ cont

/-- `count = wr -32 rd` (R96). -/
def State.occupancy (s : State) : Nat := (s.wr - s.rd).toNat

/-- P's view: drained (R97, R100). -/
def State.drainedP (s : State) : Bool := s.wr == s.rdP

/-- P's view: sixteen blocks outstanding (R97, R99). -/
def State.fullP (s : State) : Bool := s.wr - s.rdP == BitVec.ofNat (delta% Config.cursorBits) (delta% Config.queueSlots)

/-- C's view: empty (R97, R101). -/
def State.emptyC (s : State) : Bool := s.wrC == s.rd

/-- `wr_gray_s[2]`: stored as `wr_c` (R23, log 16). -/
def State.wrGrayS2 (s : State) : Cursor := gray s.wrC

/-- `rd_gray_s[2]`: stored as `rd_p` (R23, log 16). -/
def State.rdGrayS2 (s : State) : Cursor := gray s.rdP

/-- The chain `wr_gray_s[1..SYNC_STAGES]` (R23). -/
def State.wrGrayS (s : State) : Vector Cursor (delta% Config.syncStages) := #v[s.wrGrayS1, s.wrGrayS2]

/-- The chain `rd_gray_s[1..SYNC_STAGES]` (R23). -/
def State.rdGrayS (s : State) : Vector Cursor (delta% Config.syncStages) := #v[s.rdGrayS1, s.rdGrayS2]

/-- The chain `carrier_s[1..SYNC_STAGES]` (R23). -/
def State.carrierS (s : State) : Vector Bool (delta% Config.syncStages) := #v[s.carrierS1, s.carrierC]

/-- Level B: `p_drained`, drained as seen by P on gray codes (R48, R65). -/
def State.drainedGray (s : State) : Bool := s.wrGray == s.rdGrayS2

/-- Level B: `p_full`, full as seen by P on gray codes (R48, R65). -/
def State.fullGray (s : State) : Bool := s.wrGray == s.rdGrayS2 ^^^ 0b11000#5

/-- Level B: empty as seen by C on gray codes (R48, R128). -/
def State.emptyGray (s : State) : Bool := s.rdGray == s.wrGrayS2

/-- Level B: `p_ready`, 0 while `ready = 0` or a SEND is in progress (R65, R131). -/
def State.pReady (s : State) : Bool := s.ready && s.hold.isNone

/-- The sequencer's decision table (R116): draining, else carrier-idle, else silent. -/
def chooseState (emptyC carrierC : Bool) : SeqState :=
  match emptyC, carrierC with
  | false, false => .draining
  | false, true => .draining
  | true, true => .carrierIdle
  | true, false => .silent

/-- Status code of an answer (R60). -/
def Status.code : Status → BitVec 3
  | .ok => 0#3
  | .full => 1#3
  | .badSym => 2#3
  | .badCmd => 3#3
  | .empty => 4#3

/-- The response word: `full_p` in bit 4, `drained_p` in bit 3, the status in bits 2 to 0 (R60). -/
def responseWord (st : Status) (drained full : Bool) : BitVec 5 :=
  BitVec.ofBool full ++ BitVec.ofBool drained ++ st.code

/-- The continue signal that goes with every emitted block, and `c_cont` at Level B: always 1 (R66, R118). -/
def contSignal : Bool := true

end Sys2Proof.Machine
end

