-- ==== Sys2Proof/Machine/Ops.lean ====
section
/-! DEFINITION. The shared operations: reading and writing slots, moving cursors and views, and ending an operation with an answer.
Every meaning is written over these. -/

namespace Sys2Proof.Machine

/-- `SlotRead(i)` for the slot a cursor designates (R30, R109). -/
def State.slotRead (s : State) (c : Cursor) : Block := s.slots[slotIndex c]

/-- `SlotWrite(i, blk)` for the slot a cursor designates, all 120 samples (R30, R33, R98). -/
def State.slotWrite (s : State) (c : Cursor) (blk : Block) : State :=
  { s with slots := s.slots.set (slotIndex c) blk }

/-- Level B: one word of the slot RAM at address `{c[3:0], k}` (R110, R128). -/
def State.ramRead (s : State) (c : Cursor) (k : Fin (delta% Config.blockLen)) : Sample := (s.slotRead c)[k]

/-- Level B: writing one word of the slot RAM at address `{c[3:0], k}` (R110). -/
def State.ramWrite (s : State) (c : Cursor) (k : Fin (delta% Config.blockLen)) (v : Sample) : State :=
  s.slotWrite c ((s.slotRead c).set k v)

/-- `wr <- v`, with its gray register (R17, R23, R110: "together"). -/
def State.setWr (s : State) (v : Cursor) : State := { s with wr := v, wrGray := gray v }

/-- `rd <- v`, with its gray register (R18, R23, R128: "together"). -/
def State.setRd (s : State) (v : Cursor) : State := { s with rd := v, rdGray := gray v }

/-- `carrier <- v` (R20, R120). Where the value changes, R40's one stale tick is allowed anew (log 9). -/
def State.setCarrier (s : State) (v : Bool) : State :=
  { s with carrier := v, staleTick := s.staleTick && (s.carrier == v) }

/-- How far a view moves, given how far it lags: any amount from 1 to the lag (R38, R39), settled by `choice`; nothing when it does
not lag (log 7, log 8). -/
def viewAdvance (lag : Cursor) (choice : Nat) : Cursor :=
  if lag = 0#5 then 0#5 else BitVec.ofNat 5 (1 + choice % lag.toNat)

/-- `wr_c` after a SYNCW (R38). -/
def State.nextWrC (s : State) : Cursor := s.wrC + viewAdvance (s.wr - s.wrC) s.choice

/-- `rd_p` after a SYNCR (R39). -/
def State.nextRdP (s : State) : Cursor := s.rdP + viewAdvance (s.rd - s.rdP) s.choice

/-- The view `wr_c` takes a value; the first synchroniser stage then holds the cursor itself, so that it never lags the second
(log 23). -/
def State.setWrC (s : State) (v : Cursor) : State := { s with wrC := v, wrGrayS1 := s.wrGray }

/-- The view `rd_p` takes a value, as `setWrC` (log 23). -/
def State.setRdP (s : State) (v : Cursor) : State := { s with rdP := v, rdGrayS1 := s.rdGray }

/-- `carrier_c <- carrier` (R40). -/
def State.syncCarrier (s : State) : State :=
  { s with carrierC := s.carrier, carrierS1 := s.carrier, staleTick := false }

/-- The requests still to come (log 6). -/
def State.withTurns (s : State) (l : List Turn) : State := { s with turns := l }

/-- The free amount of the next SYNCW or SYNCR (log 7). -/
def State.withChoice (s : State) (n : Nat) : State := { s with choice := n }

/-- What the operation shows at its end (R25). -/
def State.answer (s : State) (o : Output) : State := { s with out := o }

/-- The producer port answers with a status; `drained_p` and `full_p` are evaluated after the command's effect (R60). -/
def State.respond (s : State) (st : Status) : State :=
  s.answer (.response (responseWord st s.drainedP s.fullP))

/-- `raise <Error>` on the producer port (R8, R136, R137): the operation ends with the named status and changes no state element.
The one way a command of the port ends in an error. -/
def State.raisePort (s : State) (st : Status) : State := s.respond st

/-- `raise <Error>` on the internal interface (R8, R136, R137): the status goes to the caller inside the block, nothing else. -/
def State.raiseInner (s : State) (st : Status) : State := s.answer (.status st)

/-- What an enqueue on a full queue leaves: `OVERFLOW_POLICY` (R6, R99) is to reject it, with the given answer. -/
def State.overflow (_s : State) (rejected : State) : State :=
  match Config.overflowPolicy with
  | .reject => rejected

/-- A producer-port operation is performed only while `hold` is empty (R131). -/
def State.portOpen (s : State) (k : State) : Host.Outcome State Fault Refusal :=
  if s.hold.isSome then .refused .portBusy else .next k

/-- Running a second action on the state the first one gives. -/
def andThen (o : Host.Outcome State Fault Refusal) (f : State → Host.Outcome State Fault Refusal) :
    Host.Outcome State Fault Refusal :=
  match o with
  | .next s => f s
  | .fault r => .fault r
  | .refused r => .refused r

end Sys2Proof.Machine
end

