-- ==== Sys2Proof/Machine/SampleCache.lean ====
section
/-! DEFINITION. SampleCache: building a waveform, the cached record, and the meanings of BUILD and FETCH
(spec/41_sample_cache.md). -/

namespace Sys2Proof.Machine

/-- The slots of a waveform from a given sense on (R83): a 1 is a zero-tone slot, negated under sense 1 and toggling it; a 0 is a
one-tone slot, negated under sense 1 and leaving it. -/
def emitSlots (p : Params) : List Bool → Bool → List Sample
  | [], _ => []
  | true :: rest, sense => signedTone p.tone0 sense ++ emitSlots p rest (!sense)
  | false :: rest, sense => signedTone p.tone1 sense ++ emitSlots p rest sense

/-- The `N_STOP` stop slots are zero-tone (R82). -/
def stopBits : List Bool := List.replicate (delta% Config.nStop) true

theorem emitSlots_length (p : Params) (bits : List Bool) (sense : Bool) :
    (emitSlots p bits sense).length = (delta% Config.slotLen) * bits.length := by
  induction bits generalizing sense with
  | nil => rfl
  | cons b rest ih => cases b <;> simp [emitSlots, signedTone_length, ih] <;> omega

/-- `WAVE(b)` (R83): the start slot, one-tone and not negated, then data slots and stop slots starting from sense 0. -/
def wave (p : Params) (b : Byte) : Block :=
  blockOfList (rep (delta% Config.nStart) (signedTone p.tone1 false) ++ emitSlots p (dataBits b ++ stopBits) false)
    (by simp [rep, signedTone_length, emitSlots_length, dataBits, stopBits])

/-- Variant A of a symbol: its waveform (R75, R76, R83, R88). -/
def variantA (p : Params) : Symbol → Block
  | .byte b => wave p b
  | .silence => silenceWf
  | .idle => idleWf p

/-- The cached record of a waveform: the waveform, its negation, its continuity flag (R86, R87). -/
def recordOf (a : Block) : CachedSample := { a := a, b := negBlock a, cont := contFlag a }

/-- `BUILD(sym)` on a valid symbol, a pure function of the tone ROM (R88). -/
def render (p : Params) (sym : Symbol) : CachedSample := recordOf (variantA p sym)

/-- `BUILD(sym)` on a symbol code; none is BADSYM (R81, R88). -/
def build (p : Params) (sym : SymCode) : Option CachedSample := (symbolOf sym).map (render p)

/-- `CacheRead(sym)`: after reset `CACHE[sym] = BUILD(sym)` and nothing writes it (R14; recomputed as R14 and D23 allow, log 1). -/
def State.cacheRead (s : State) (sym : Symbol) : CachedSample := render s.params sym

/-- The indivisible core of FETCH on a valid symbol: choose the variant by `lastSense`, then update `lastSense` (R45, R89). -/
def State.fetch (s : State) (sym : Symbol) : Block × State :=
  (variantOf (s.cacheRead sym) s.lastSense,
   { s with lastSense := phaseAfter s.lastSense (s.cacheRead sym).cont })

/-- BUILD (R88). -/
def execBuild (sym : SymCode) (s : State) : Host.Outcome State Fault Refusal :=
  match build s.params sym with
  | none => .next (s.raiseInner .badSym)
  | some rec => .next (s.answer (.record rec))

/-- FETCH as an operation of its own (R89): the block is returned and stands on the internal data path (R98, log 5). -/
def execFetch (sym : SymCode) (s : State) : Host.Outcome State Fault Refusal :=
  match symbolOf sym with
  | none => .next (s.raiseInner .badSym)
  | some y => .next { (s.fetch y).2 with dataPath := (s.fetch y).1, out := .returned (s.fetch y).1 }

end Sys2Proof.Machine
end

