-- ==== Sys2Proof/Machine/TransferQueue.lean ====
section
/-! DEFINITION. TransferQueue: the meanings of ENQ, ISDR, PEEK and ADVR (spec/42_transfer_queue.md). -/

namespace Sys2Proof.Machine

/-- The effect of an ENQ that is not refused: the slot at `wr mod 16`, then `wr + 1` (R98). -/
def State.enqueue (s : State) (blk : Block) : State := (s.slotWrite s.wr blk).setWr (s.wr + 1#5)

/-- ENQ of the block in `hold`: step 2 of SEND (R122). It answers OK on the producer port and empties `hold`; a FULL, which step 1
has excluded, would change nothing (R137, log 13). -/
def State.enqHeld (s : State) (blk : Block) : State :=
  if s.fullP then s.overflow (s.raisePort .full)
  else { s.enqueue blk with hold := none, sendIdx := 0 }.respond .ok

/-- ENQ of the block on the internal data path, as an operation of its own (R98). -/
def State.enqPath (s : State) (blk : Block) : State :=
  if s.fullP then s.overflow (s.raiseInner .full) else (s.enqueue blk).answer (.status .ok)

/-- ENQ (R98): the block on the internal data path, which during a SEND is the one in `hold` (R122, R131, log 5). -/
def execEnq (s : State) : Host.Outcome State Fault Refusal :=
  match s.hold with
  | some blk => .next (s.enqHeld blk)
  | none => .next (s.enqPath s.dataPath)

/-- ISDR (R100): the answer is `drained_p`, bit 3 of the response word (R60). -/
def execIsdr (s : State) : Host.Outcome State Fault Refusal := s.portOpen (s.respond .ok)

/-- PEEK's answer: none is "empty" (R101). -/
def State.peek (s : State) : Option Block := if s.emptyC then none else some (s.slotRead s.rd)

/-- The effect of an ADVR that is not refused: `rd + 1` (R102). -/
def State.advance (s : State) : State := s.setRd (s.rd + 1#5)

/-- PEEK (R101). EMPTY is its normal answer on an empty queue. -/
def execPeek (s : State) : Host.Outcome State Fault Refusal :=
  match s.peek with
  | none => .next (s.answer (.status .empty))
  | some blk => .next (s.answer (.returned blk))

/-- ADVR (R102). -/
def execAdvr (s : State) : Host.Outcome State Fault Refusal :=
  if s.emptyC then .next (s.raiseInner .empty) else .next (s.advance.answer (.status .ok))

end Sys2Proof.Machine
end

