-- ==== Sys2Proof/Machine/Sequencer.lean ====
section
/-! DEFINITION. CallbackScheduler and the transmit path: the meanings of TICK, SETC and SEND (spec/43_sequencer.md). -/

namespace Sys2Proof.Machine

/-- TICK reads `carrier_c` once, at its start (R121), and never writes it (R145); whether it read the old value is kept for R40's
bound (log 9). -/
def State.noteCarrier (s : State) : State := { s with staleTick := s.carrierC != s.carrier }

/-- The choice of output state for a tick (R115, R116). -/
def State.outputState (s : State) : SeqState := chooseState s.emptyC s.carrierC

/-- The block a tick emits and the state it leaves, `carrier_c` having been read (R115): the head block and ADVR, or the FETCH of
idle-carrier, or the FETCH of silence. -/
def State.emitBlock (s : State) : Block × State :=
  match s.outputState with
  | .draining => (s.slotRead s.rd, { s.advance with seqState := .draining })
  | .carrierIdle => ((s.fetch .idle).1, { (s.fetch .idle).2 with seqState := .carrierIdle })
  | .silent => ((s.fetch .silence).1, { (s.fetch .silence).2 with seqState := .silent })

/-- TICK (R115): exactly one block, with the continue signal (R118). -/
def execTick (s : State) : Host.Outcome State Fault Refusal :=
  let r := s.noteCarrier.emitBlock
  .next (r.2.answer (.emitted r.1 contSignal))

/-- SETC (R120). -/
def execSetc (v : Bool) (s : State) : Host.Outcome State Fault Refusal := s.portOpen ((s.setCarrier v).respond .ok)

/-- Step 1 of SEND (R122), given whether P sees the queue full: the operand's check, then the full test, then the FETCH into `hold`.
A status other than OK leaves the state as it was (R137). -/
def State.sendStep1 (s : State) (full : Bool) (arg : SymCode) : Status × State :=
  match byteOf arg with
  | none => (.badSym, s)
  | some b =>
    if full then (.full, s)
    else (.ok, { (s.fetch (.byte b)).2 with hold := some (s.fetch (.byte b)).1 })

/-- The end of step 1: an accepted SEND answers only after step 2, a refused one at once (R122, R136). -/
def sendAnswer : Status × State → State
  | (.ok, t) => t.answer .quiet
  | (.full, t) => t.raisePort .full
  | (.badSym, t) => t.raisePort .badSym
  | (.badCmd, t) => t.raisePort .badCmd
  | (.empty, t) => t.raisePort .empty

/-- SEND (R122). Its two steps are separate (D10): this is step 1, and while `hold` is not empty P's next step is step 2, the ENQ of
`hold` (`execEnq`). -/
def execSend (arg : SymCode) (s : State) : Host.Outcome State Fault Refusal :=
  s.portOpen (sendAnswer (s.sendStep1 s.fullP arg))

end Sys2Proof.Machine
end

