-- ==== Sys2Proof/Machine/Composite.lean ====
section
/-! DEFINITION. The composite operations (spec/30_encoding.md R64): SEND_BYTES as the caller's loop of ISDR and SEND
(spec/43_sequencer.md R124, R125), DEQ and TOGC. -/

namespace Sys2Proof.Machine

/-- What is left of a batch once no wait is needed: nothing, or the next byte's SEND (R124). -/
def nextBatch (rest : List Byte) : Option Batch :=
  match rest with
  | [] => none
  | b :: bs => some ⟨.send, b :: bs⟩

/-- SEND_BYTES starts: it first waits for the previous batch to drain (R124). A SEND_BYTES still in progress is thereby abandoned, the
rest of its bytes unsent: a choice of the model's, R124 and R172 do not say (log 34). -/
def startBatch (bytes : List Byte) (s : State) : Host.Outcome State Fault Refusal :=
  .next ({ s with batch := some ⟨.waitDrain, bytes⟩ }.answer .quiet)

/-- One turn of a `repeat` loop of R124: one ISDR, and the loop ends when it answers drained. -/
def spinStep (rest : List Byte) (s : State) : Host.Outcome State Fault Refusal :=
  andThen (execIsdr s) (fun t => .next (if s.drainedP then { t with batch := nextBatch rest } else t))

/-- The SEND of the next byte of the batch (R124): accepted, the byte is done with; FULL, the drain wait comes before the retry. -/
def sendNext (b : Byte) (rest : List Byte) (s : State) : Host.Outcome State Fault Refusal :=
  andThen (execSend (b.setWidth 9) s)
    (fun t => .next { t with batch := if t.hold.isSome then nextBatch rest else some ⟨.waitDrain, b :: rest⟩ })

/-- The next step P takes in its SEND_BYTES (R124, R125, R131): step 2 of a SEND between its two steps, else the step its loop is at. -/
def batchStep (s : State) : Host.Outcome State Fault Refusal :=
  if s.hold.isSome then execEnq s
  else
    match s.batch with
    | none => .next (s.answer .quiet)
    | some ⟨.waitDrain, rest⟩ => spinStep rest s
    | some ⟨.send, []⟩ => .next ({ s with batch := none }.answer .quiet)
    | some ⟨.send, b :: rest⟩ => sendNext b rest s

/-- The caller abandons its SEND_BYTES between two of its steps (R172). -/
def dropBatch (s : State) : Host.Outcome State Fault Refusal := .next ({ s with batch := none }.answer .quiet)

/-- DEQ (R64): PEEK, and ADVR if it returned a block, which is the answer. -/
def execDeq (s : State) : Host.Outcome State Fault Refusal :=
  match s.peek with
  | none => execPeek s
  | some blk => andThen (execAdvr s) (fun t => .next (t.answer (.returned blk)))

/-- TOGC (R64): SETC of the opposite of `carrier`. -/
def execTogc (s : State) : Host.Outcome State Fault Refusal := execSetc (!s.carrier) s

end Sys2Proof.Machine
end

