-- ==== Sys2Proof/Syntax.lean ====
section
/-! DEFINITION. The thirteen operations of tapesim-core (spec/30_encoding.md rules R58 and R59), one constructor per row of
spec/opcode_table.json. -/

namespace Sys2Proof

/-- An operation. The block of ENQ is not in its word: it travels on the internal data path (R59, R98). -/
inductive Instr where
  /-- SEND, R122: the 9-bit operand as it stands in the word; a byte when bit 8 is 0. -/
  | send (arg : SymCode)
  /-- SETC, R120: the new carrier value. -/
  | setc (v : Bool)
  /-- ISDR, R100. -/
  | isdr
  /-- BUILD, R88: a symbol code. -/
  | build (sym : SymCode)
  /-- FETCH, R89: a symbol code. -/
  | fetch (sym : SymCode)
  /-- ENQ, R98. -/
  | enq
  /-- PEEK, R101. -/
  | peek
  /-- ADVR, R102. -/
  | advr
  /-- TICK, R115. -/
  | tick
  /-- RESET, R155. -/
  | reset
  /-- SYNCW, R38. -/
  | syncw
  /-- SYNCR, R39. -/
  | syncr
  /-- SYNCC, R40. -/
  | syncc
  deriving DecidableEq, Repr

end Sys2Proof
end

