-- ==== Sys2Proof/WellFormed.lean ====
section
/-! DEFINITION. Which operations carry a well-formed operand (spec/30_encoding.md rules R59 and R61). A malformed operand is
still decoded and answered BADSYM; this check says which ones those are. -/

namespace Sys2Proof

/-- SEND carries a byte, codes `0x000` to `0x0FF` (R59, R61). -/
def sendArgOk (arg : SymCode) : Bool := decide (arg.toNat < 0x100)

/-- BUILD and FETCH carry one of the 258 symbol codes, `0x000` to `0x101` (R53, R61). -/
def symCodeOk (sym : SymCode) : Bool := decide (sym.toNat < (delta% Config.nSymbols))

/-- No operand of the operation is malformed in the sense of R61. -/
def Instr.wf : Instr → Bool
  | .send arg => sendArgOk arg
  | .setc _ => true
  | .isdr => true
  | .build sym => symCodeOk sym
  | .fetch sym => symCodeOk sym
  | .enq => true
  | .peek => true
  | .advr => true
  | .tick => true
  | .reset => true
  | .syncw => true
  | .syncr => true
  | .syncc => true

end Sys2Proof
end

