-- ==== Sys2Proof/Decode.lean ====
section
/-! DEFINITION. Decoder and encoder of the 13-bit operation word (spec/30_encoding.md rules R58, R59, R61, R62). -/

namespace Sys2Proof

/-- Why a word is no operation (R61). -/
inductive DecodeError where
  /-- opid 0x0, 0xE or 0xF. -/
  | reservedOpid
  /-- operand bits that R59 fixes at 0 are not 0. -/
  | reservedArg
  deriving DecidableEq, Repr

/-- Bits 12 to 9 of the word (R59). -/
def opidOf (w : OpWord) : BitVec 4 := w.extractLsb' 9 4

/-- Bits 8 to 0 of the word (R59). -/
def argOf (w : OpWord) : SymCode := w.extractLsb' 0 9

/-- An operation whose row fixes the whole operand at 0 (R59). -/
def withZeroArg (arg : SymCode) (i : Instr) : Except DecodeError Instr :=
  if arg = 0#9 then .ok i else .error .reservedArg

/-- SETC's operand: bit 0 is the new value, bits 8 to 1 must be 0 (R59, R61). -/
def decodeSetc (arg : SymCode) : Except DecodeError Instr :=
  if arg.extractLsb' 1 8 = 0#8 then .ok (.setc (arg.getLsbD 0)) else .error .reservedArg

/-- The decoder, total on every word (R61: every word decodes to exactly one row or to "reserved"). -/
def decode (w : OpWord) : Except DecodeError Instr :=
  match (opidOf w).toNat with
  | 0x1 => .ok (.send (argOf w))
  | 0x2 => decodeSetc (argOf w)
  | 0x3 => withZeroArg (argOf w) .isdr
  | 0x4 => .ok (.build (argOf w))
  | 0x5 => .ok (.fetch (argOf w))
  | 0x6 => withZeroArg (argOf w) .enq
  | 0x7 => withZeroArg (argOf w) .peek
  | 0x8 => withZeroArg (argOf w) .advr
  | 0x9 => withZeroArg (argOf w) .tick
  | 0xA => withZeroArg (argOf w) .reset
  | 0xB => withZeroArg (argOf w) .syncw
  | 0xC => withZeroArg (argOf w) .syncr
  | 0xD => withZeroArg (argOf w) .syncc
  | _ => .error .reservedOpid

/-- The operation id of R58. -/
def Instr.opid : Instr → BitVec 4
  | .send _ => 0x1#4
  | .setc _ => 0x2#4
  | .isdr => 0x3#4
  | .build _ => 0x4#4
  | .fetch _ => 0x5#4
  | .enq => 0x6#4
  | .peek => 0x7#4
  | .advr => 0x8#4
  | .tick => 0x9#4
  | .reset => 0xA#4
  | .syncw => 0xB#4
  | .syncr => 0xC#4
  | .syncc => 0xD#4

/-- The operand field of R59. -/
def Instr.arg : Instr → SymCode
  | .send arg => arg
  | .setc v => (BitVec.ofBool v).setWidth 9
  | .build sym => sym
  | .fetch sym => sym
  | .isdr => 0#9
  | .enq => 0#9
  | .peek => 0#9
  | .advr => 0#9
  | .tick => 0#9
  | .reset => 0#9
  | .syncw => 0#9
  | .syncr => 0#9
  | .syncc => 0#9

/-- The word of an operation: `opid * 512 + arg` (R59). -/
def encode (i : Instr) : OpWord := i.opid ++ i.arg

/-- A row of R59's table: a word matches when `(word and mask) = pattern`. -/
structure OpRow where
  mnemonic : String
  opid : BitVec 4
  pattern : OpWord
  mask : OpWord
  deriving DecidableEq, Repr

/-- R59's table: the mnemonic, opid, match and mask columns as the spec prints them. -/
def opRows : List OpRow :=
  [ ⟨"SEND", 0x1#4, 0x0200#13, 0x1E00#13⟩, ⟨"SETC", 0x2#4, 0x0400#13, 0x1FFE#13⟩, ⟨"ISDR", 0x3#4, 0x0600#13, 0x1FFF#13⟩,
    ⟨"BUILD", 0x4#4, 0x0800#13, 0x1E00#13⟩, ⟨"FETCH", 0x5#4, 0x0A00#13, 0x1E00#13⟩, ⟨"ENQ", 0x6#4, 0x0C00#13, 0x1FFF#13⟩,
    ⟨"PEEK", 0x7#4, 0x0E00#13, 0x1FFF#13⟩, ⟨"ADVR", 0x8#4, 0x1000#13, 0x1FFF#13⟩, ⟨"TICK", 0x9#4, 0x1200#13, 0x1FFF#13⟩,
    ⟨"RESET", 0xA#4, 0x1400#13, 0x1FFF#13⟩, ⟨"SYNCW", 0xB#4, 0x1600#13, 0x1FFF#13⟩, ⟨"SYNCR", 0xC#4, 0x1800#13, 0x1FFF#13⟩,
    ⟨"SYNCC", 0xD#4, 0x1A00#13, 0x1FFF#13⟩ ]

/-- `(word and mask) = match` (R59). -/
def OpRow.matches (r : OpRow) (w : OpWord) : Bool := (w &&& r.mask) == r.pattern

/-- The mnemonic of an operation (R58). -/
def Instr.mnemonic : Instr → String
  | .send _ => "SEND"
  | .setc _ => "SETC"
  | .isdr => "ISDR"
  | .build _ => "BUILD"
  | .fetch _ => "FETCH"
  | .enq => "ENQ"
  | .peek => "PEEK"
  | .advr => "ADVR"
  | .tick => "TICK"
  | .reset => "RESET"
  | .syncw => "SYNCW"
  | .syncr => "SYNCR"
  | .syncc => "SYNCC"

/-- The 13-bit word a number stands for, where it fits in 13 bits (log 26). -/
def opWordOfNat (w : Nat) : Option OpWord := if w < 8192 then some (BitVec.ofNat 13 w) else none

/-- What the decoder reads from a word given as a number. Every operation word is 13 bits (R62), whatever `nbits` says: a number
with a bit above bit 12 is no operation word (log 26). -/
def decodeTableWord (_nbits w : Nat) : Option Instr :=
  match opWordOfNat w with
  | some word => (decode word).toOption
  | none => none

end Sys2Proof
end

