-- ==== Sys2Proof/Machine/Crossing.lean ====
section
/-! DEFINITION. The crossing agent: the meanings of SYNCW, SYNCR and SYNCC (spec/20_memory.md R37 to R40). -/

namespace Sys2Proof.Machine

/-- SYNCW (R38). Where it is not enabled, `wr_c = wr`, it changes nothing (log 8). -/
def execSyncw (s : State) : Host.Outcome State Fault Refusal :=
  if s.wrC = s.wr then .next (s.answer .quiet) else .next ((s.setWrC s.nextWrC).answer .quiet)

/-- SYNCR (R39). Where it is not enabled, `rd_p = rd`, it changes nothing (log 8). -/
def execSyncr (s : State) : Host.Outcome State Fault Refusal :=
  if s.rdP = s.rd then .next (s.answer .quiet) else .next ((s.setRdP s.nextRdP).answer .quiet)

/-- SYNCC (R40). Where it is not enabled, `carrier_c = carrier`, it changes nothing (log 8). -/
def execSyncc (s : State) : Host.Outcome State Fault Refusal :=
  if s.carrierC = s.carrier then .next (s.answer .quiet) else .next (s.syncCarrier.answer .quiet)

end Sys2Proof.Machine
end

