-- ==== Sys2Proof/Machine/Reset.lean ====
section
/-! DEFINITION. The meaning of RESET (spec/70_reset_and_hazards.md R155). -/

namespace Sys2Proof.Machine

/-- The slot contents after the n-th RESET: free values, one a slot (R155, U1, log 4). Written out so that a slot written later can
be read without knowing the others. -/
def freeSlots (n : Nat) : Vector Block (delta% Config.queueSlots) :=
  #v[Config.freeSlot n 0, Config.freeSlot n 1, Config.freeSlot n 2, Config.freeSlot n 3,
     Config.freeSlot n 4, Config.freeSlot n 5, Config.freeSlot n 6, Config.freeSlot n 7,
     Config.freeSlot n 8, Config.freeSlot n 9, Config.freeSlot n 10, Config.freeSlot n 11,
     Config.freeSlot n 12, Config.freeSlot n 13, Config.freeSlot n 14, Config.freeSlot n 15]

/-- Every element of R10 and R23 at its reset value; what an operation in progress had is lost (R143, R155, R169). The parameters are
constant (R13) and the requests still to come are the environment's (log 25). -/
def State.resetAll (s : State) : State :=
  { State.initial s.params (freeSlots s.freeCount) with
    freeCount := s.freeCount + 1, choice := s.choice, turns := s.turns }

/-- RESET (R155), one step at Level A: reset is complete when it is, so `ready = 1` (R24, R157, log 22). -/
def execReset (s : State) : Host.Outcome State Fault Refusal := .next s.resetAll

end Sys2Proof.Machine
end

