-- ==== Sys2Proof/Machine/Dispatch.lean ====
section
/-! DEFINITION. One arm per operation: the meaning of each (spec/30_encoding.md R58 names the rule of each). -/

namespace Sys2Proof.Machine

def exec (i : Instr) (s : State) : Host.Outcome State Fault Refusal :=
  match i with
  | .send arg => Sys2Proof.Machine.execSend arg s
  | .setc v => Sys2Proof.Machine.execSetc v s
  | .isdr => Sys2Proof.Machine.execIsdr s
  | .build sym => Sys2Proof.Machine.execBuild sym s
  | .fetch sym => Sys2Proof.Machine.execFetch sym s
  | .enq => Sys2Proof.Machine.execEnq s
  | .peek => Sys2Proof.Machine.execPeek s
  | .advr => Sys2Proof.Machine.execAdvr s
  | .tick => Sys2Proof.Machine.execTick s
  | .reset => Sys2Proof.Machine.execReset s
  | .syncw => Sys2Proof.Machine.execSyncw s
  | .syncr => Sys2Proof.Machine.execSyncr s
  | .syncc => Sys2Proof.Machine.execSyncc s

end Sys2Proof.Machine
end

