-- ==== Sys2Proof/Machine/LevelB.lean ====
section
/-! DEFINITION. Level B: the reset pin, the two clocks, the gray-coded crossings, and the sample-by-sample forms of SEND and TICK
(spec/10_state.md R23, R24; 20_memory.md R48, R49; 30_encoding.md R65, R66; 42_transfer_queue.md R110; 43_sequencer.md R128, R129). -/

namespace Sys2Proof.Machine

/-- The response register of the producer port takes a status; the two bits are those of the gray comparisons (R48, R60, R65). -/
def State.respondB (s : State) (st : Status) : State :=
  { s with pRspValid := true, pRsp := responseWord st s.drainedGray s.fullGray }

/-- The operations the producer port accepts (R58, R61). -/
def isPortOp : Instr → Bool
  | .send _ => true
  | .setc _ => true
  | .isdr => true
  | .build _ => false
  | .fetch _ => false
  | .enq => false
  | .peek => false
  | .advr => false
  | .tick => false
  | .reset => false
  | .syncw => false
  | .syncr => false
  | .syncc => false

/-- A SEND accepted at this edge: step 1 (log 19). Accepted, its answer comes after the writes (R129); refused, it answers without
them (R129), and that this is on the cycle after acceptance is a choice of the model's (log 36). -/
def sendAnswerB : Status × State → State
  | (.ok, t) => { t with pRspValid := false, sendIdx := 0 }
  | (.full, t) => t.respondB .full
  | (.badSym, t) => t.respondB .badSym
  | (.badCmd, t) => t.respondB .badCmd
  | (.empty, t) => t.respondB .empty

/-- The command of an accepted word (R61). SETC and ISDR respond on the cycle after acceptance (R129). A word that is reserved or names
an internal operation answers BADCMD, and that its answer comes on that cycle too is a choice of the model's: R129 gives the cycle for
SETC and ISDR only, and U19 fixes no cycle count (log 36). -/
def State.acceptB (s : State) (w : OpWord) : State :=
  match decode w with
  | .ok (.send arg) => sendAnswerB (s.sendStep1 s.fullGray arg)
  | .ok (.setc v) => (s.setCarrier v).respondB .ok
  | .ok .isdr => s.respondB .ok
  | .ok _ => s.respondB .badCmd
  | .error _ => s.respondB .badCmd

/-- Step 2 of a SEND, one P clock of it (R110, R129): sample `sendIdx` of `hold` goes to `{wr[3:0], sendIdx}`; on the clock after the
last write `wr` and `wr_gray` move together, `hold` empties and the port answers OK. -/
def State.writeStepB (s : State) (blk : Block) : State :=
  if h : s.sendIdx.val < (delta% Config.blockLen) then
    { s.ramWrite s.wr ⟨s.sendIdx.val, h⟩ blk[s.sendIdx.val] with
      sendIdx := ⟨s.sendIdx.val + 1, by omega⟩, pRspValid := false }
  else
    { s.setWr (s.wr + 1#5) with hold := none, sendIdx := 0 }.respondB .ok

/-- What the P side does at one edge, the synchroniser apart. A word is taken only with `p_valid and p_ready` (R65). While
`p_rsp_valid = 0`, `p_rsp` keeps the last response word: a choice of the model's, R65 and R129 do not say (log 31). -/
def State.pWork (s : State) (pins : PPins) : State :=
  match s.hold with
  | some blk => s.writeStepB blk
  | none => if pins.valid then s.acceptB pins.cmd else { s with pRspValid := false }

/-- The P side's synchroniser: the first stage samples `rd_gray`, the second takes the first (R23, R48). -/
def State.pShift (s : State) (rdGrayIn : Cursor) : State :=
  { s with rdP := ungray s.rdGrayS1, rdGrayS1 := rdGrayIn }

/-- An edge of the P clock, with the value its first stage samples (R48). Reset holds every register (R155); a command while
`ready = 0` is refused (R141). -/
def pEdge (pins : PPins) (rdGrayIn : Cursor) (s : State) : Host.Outcome State Fault Refusal :=
  if pins.valid && !s.ready then .refused .notReady
  else if !s.rstN then .next (s.answer .quiet)
  else .next (((s.pWork pins).pShift rdGrayIn).answer .quiet)

/-- A `c_tick` pulse (R128 item 1): latch the carrier, choose the source by R116, perform the FETCH of a fallback block now. -/
def State.startTickB (s : State) : State :=
  let t := match chooseState s.emptyGray s.carrierC with
    | .draining => { s with seqState := .draining, src := .draining }
    | .carrierIdle => { (s.fetch .idle).2 with seqState := .carrierIdle, src := .carrierIdle, pol := s.lastSense }
    | .silent => { (s.fetch .silence).2 with seqState := .silent, src := .silent, pol := s.lastSense }
  { t with sidx := 0, busy := true, cValid := false, cLast := false, staleTick := s.carrierC != s.carrier }

/-- Sample `k` of the idle-carrier block in the variant `pol` selects: `TONE0[k mod 10]`, negated iff `pol xor ((k div 10) mod 2) = 1`
(R128 item 2). -/
def idleSample (p : Params) (pol : Bool) (k : Fin (delta% Config.blockLen)) : Sample :=
  let v := p.tone0[k.val % (delta% Config.slotLen)]
  if pol ^^ decide (k.val / (delta% Config.slotLen) % 2 = 1) then -v else v

/-- The sample presented at index `sidx` (R128 item 2). -/
def State.sampleB (s : State) : Sample :=
  match s.src with
  | .draining => s.ramRead s.rd s.sidx
  | .carrierIdle => idleSample s.params s.pol s.sidx
  | .silent => 0#16

/-- One sample of the block being emitted (R66, R128 item 2). -/
def State.presentB (s : State) : State :=
  { s with
    cValid := true, cData := s.sampleB, cLast := decide (s.sidx.val = (delta% Config.lastSample)),
    sidx := if h : s.sidx.val < (delta% Config.lastSample) then ⟨s.sidx.val + 1, by omega⟩ else s.sidx }

/-- The clock after sample 119 (R128 item 3). -/
def State.finishB (s : State) : State :=
  let t := match s.src with
    | .draining => s.advance
    | .carrierIdle => s
    | .silent => s
  { t with busy := false, cValid := false, cLast := false }

/-- What the C side does at one edge, the synchroniser apart (R128). While `c_valid = 0`, in a pause and after sample 119, `c_data` keeps
the last sample: a choice of the model's, R66 and R128 do not say (log 32). -/
def State.cWork (s : State) (pins : CPins) : State :=
  if pins.tick then s.startTickB
  else if s.busy then
    if s.cLast then s.finishB
    else if pins.pause then { s with cValid := false }
    else s.presentB
  else { s with cValid := false, cLast := false }

/-- The C side's synchronisers: `wr_gray` and `carrier` through two stages (R23, R48). -/
def State.cShift (s : State) (wrGrayIn : Cursor) (carrierIn : Bool) : State :=
  { s with
    wrC := ungray s.wrGrayS1, wrGrayS1 := wrGrayIn, carrierC := s.carrierS1, carrierS1 := carrierIn,
    staleTick := s.staleTick && (s.carrierS1 != s.carrier) }

/-- An edge of the C clock, with the values its first stages sample (R48). A tick while `busy = 1` or `ready = 0` is refused
(R66, R141). -/
def cEdge (pins : CPins) (wrGrayIn : Cursor) (carrierIn : Bool) (s : State) : Host.Outcome State Fault Refusal :=
  if pins.tick && !s.ready then .refused .notReady
  else if pins.tick && s.busy then .refused .tickWhileBusy
  else if !s.rstN then .next (s.answer .quiet)
  else .next (((s.cWork pins).cShift wrGrayIn carrierIn).answer .quiet)

/-- The work of both sides at one instant, in the order in which they reach `lastSense` (R49, R143). -/
def State.bothWork (s : State) (pins : PPins) (cpins : CPins) (pFirst : Bool) : State :=
  if pFirst then (s.pWork pins).cWork cpins else (s.cWork cpins).pWork pins

/-- An edge of both clocks at one instant (R48, R49, R143): both sides work on the values before the edge, and each first stage samples
the old or the new value of what the other side changes at that instant, never a third (log 18). -/
def bothEdges (pins : PPins) (cpins : CPins) (cross : CrossChoice) (s : State) : Host.Outcome State Fault Refusal :=
  let t := s.bothWork pins cpins cross.pFirst
  if (pins.valid || cpins.tick) && !s.ready then .refused .notReady
  else if cpins.tick && s.busy then .refused .tickWhileBusy
  else if !s.rstN then .next (s.answer .quiet)
  else
    .next (((t.pShift (if cross.rdNew then t.rdGray else s.rdGray)).cShift
      (if cross.wrNew then t.wrGray else s.wrGray) (if cross.carrierNew then t.carrier else s.carrier)).answer .quiet)

/-- The reset pin (R24, R65, R155, R157): low, every element takes its reset value at once and `ready` falls; high, reset is
released and initialisation goes on until `initDone`. -/
def resetPin (level : Bool) (s : State) : Host.Outcome State Fault Refusal :=
  if level then .next ({ s with rstN := true }.answer .quiet)
  else .next { s.resetAll with ready := false, rstN := false }

/-- Initialisation has finished: "`ready` rises once reset is released and initialisation has finished" (R172). -/
def initDone (s : State) : Host.Outcome State Fault Refusal :=
  if s.rstN then .next ({ s with ready := true }.answer .quiet) else .next (s.answer .quiet)

end Sys2Proof.Machine
end

