-- ==== Sys2Proof/Machine/Turns.lean ====
section
/-! DEFINITION. One turn of the machine: who may perform what (spec/60_exceptions.md R145, R141), the producer port's decoding
(spec/30_encoding.md R61), and P's step 2 before anything else of P (spec/43_sequencer.md R131). -/

namespace Sys2Proof.Machine

/-- The code is malformed for FETCH; whichever context asks is answered BADSYM (R81). -/
def malformedSym (sym : SymCode) : Bool := (symbolOf sym).isNone

/-- R145's table: the operations each agent may perform. FETCH of a byte is P's, FETCH of idle-carrier or silence C's. BUILD is the
reset logic's (R58), counted with the host (log 14). -/
def mayIssue (who : Agent) (i : Instr) : Bool :=
  match i with
  | .send _ => who == .producer
  | .setc _ => who == .producer
  | .isdr => who == .producer
  | .build _ => who == .host
  | .fetch sym =>
    (who == .producer && ((byteOf sym).isSome || malformedSym sym)) ||
    (who == .consumer && (byteOf sym).isNone)
  | .enq => who == .producer
  | .peek => who == .consumer
  | .advr => who == .consumer
  | .tick => who == .consumer
  | .reset => who == .host
  | .syncw => who == .crossing
  | .syncr => who == .crossing
  | .syncc => who == .crossing

/-- The agent whose row of R145 holds the operation. -/
def ownerOf : Instr → Agent
  | .send _ => .producer
  | .setc _ => .producer
  | .isdr => .producer
  | .build _ => .host
  | .fetch sym => if (byteOf sym).isSome then .producer else .consumer
  | .enq => .producer
  | .peek => .consumer
  | .advr => .consumer
  | .tick => .consumer
  | .reset => .host
  | .syncw => .crossing
  | .syncr => .crossing
  | .syncc => .crossing

/-- P or C asked for something before `ready`: refused (R24, R141 (c)). A step of X is no command and no tick, and is performed as at
any other time (log 30). -/
def State.notYet (s : State) (who : Agent) : Bool := !s.ready && who != .host && who != .crossing

/-- C asked for something while a block is being emitted (R66, R141 (c)). -/
def State.cBusy (s : State) (who : Agent) : Bool := s.busy && who == .consumer

/-- P is between the two steps of a SEND: the only step it can take is step 2 (R131). ENQ itself is that step. -/
def State.mustFinish (s : State) (who : Agent) (i : Instr) : Bool :=
  s.hold.isSome && who == .producer && i != .enq

/-- R40's bound: a TICK has read the old `carrier_c` and the view is still behind, so the SYNCC of X comes before the next TICK (V43,
log 9). -/
def State.carrierDue (s : State) : Bool := s.staleTick && s.carrierC != s.carrier

/-- C asks for a TICK and X's SYNCC comes before it (R40). -/
def State.mustCross (s : State) (i : Instr) : Bool := s.carrierDue && i == .tick

/-- P's next step while `hold` is not empty is step 2 of its SEND, and what it was to do waits, first in the list (R131, log 12). -/
def finishFirst (waiting : Turn) (s : State) (k : Host.Outcome State Fault Refusal) : Host.Outcome State Fault Refusal :=
  if s.hold.isSome then execEnq (s.withTurns (waiting :: s.turns)) else k

/-- An agent performs the operation a word names. While P must finish a SEND, this takes step 2 and leaves the request
waiting; where the carrier's SYNCC is due before a TICK, this is that step of X, and C's TICK waits (R40, R145, R146). -/
def performOp (who : Agent) (word : OpWord) (choice : Nat) (s : State) : Host.Outcome State Fault Refusal :=
  match decode word with
  | .error _ => .refused .reservedWord
  | .ok i =>
    if !mayIssue who i then .refused .notPermitted
    else if s.notYet who then .refused .notReady
    else if s.cBusy who then .refused .tickWhileBusy
    else if s.mustFinish who i then execEnq (s.withTurns (.op who word choice :: s.turns))
    else if s.mustCross i then execSyncc (s.withTurns (.op who word choice :: s.turns))
    else exec i (s.withChoice choice)

/-- The port's answer to an accepted word (R61): SEND, SETC and ISDR are carried out, every other word is answered BADCMD. -/
def portCommand (word : OpWord) (s : State) : Host.Outcome State Fault Refusal :=
  match decode word with
  | .error _ => .next (s.raisePort .badCmd)
  | .ok i => if isPortOp i then exec i s else .next (s.raisePort .badCmd)

/-- A word offered on the producer port (R61, R65, R131): by P only (R141), after `ready`, and waiting while P finishes a SEND. -/
def offerWord (who : Agent) (word : OpWord) (s : State) : Host.Outcome State Fault Refusal :=
  if who != .producer then .refused .notPermitted
  else if !s.ready then .refused .notReady
  else finishFirst (.port who word) s (portCommand word s)

/-- P's composite steps need `ready` (R157). -/
def producerStep (s : State) (k : Host.Outcome State Fault Refusal) : Host.Outcome State Fault Refusal :=
  if !s.ready then .refused .notReady else k

/-- One turn, already taken off the list. -/
def runTurn (t : Turn) (s : State) : Host.Outcome State Fault Refusal :=
  match t with
  | .op who word choice => performOp who word choice s
  | .port who word => offerWord who word s
  | .sendBytes who bytes =>
    if who != .producer then .refused .notPermitted
    else producerStep s (finishFirst (.sendBytes who bytes) s (startBatch bytes s))
  | .sendBytesStep => producerStep s (batchStep s)
  | .dropBatch => dropBatch s
  | .deq =>
    if !s.ready then .refused .notReady else if s.busy then .refused .tickWhileBusy else execDeq s
  | .togc => producerStep s (finishFirst .togc s (execTogc s))
  | .pClk pins => pEdge pins s.rdGray s
  | .cClk pins => cEdge pins s.wrGray s.carrier s
  | .bothClk pins cpins cross => bothEdges pins cpins cross s
  | .resetPin level => resetPin level s
  | .initDone => initDone s

/-- The word a number stands for in `withFetchWord`: a number that is no 13-bit word is laid down as the reserved word 0. -/
def fetchWord (w : Nat) : OpWord := (opWordOfNat w).getD 0#13

/-- The turn that performs the operation a word names, made by the agent R145 lets perform it (log 6). -/
def turnOfWord (word : OpWord) (choice : Nat) : Turn :=
  match decode word with
  | .ok i => .op (ownerOf i) word choice
  | .error _ => .op .producer word choice

/-- The state with what a turn of the agent needs before the word it names is the very next thing performed: reset finished, no
emission under way for C, no SYNCC of X due before a TICK, no SEND half done for P unless the word is that SEND's own ENQ. -/
def State.readyFor (s : State) (word : OpWord) : State :=
  match decode word with
  | .ok i =>
    { (if s.mustCross i then s.syncCarrier else s) with
      rstN := true, ready := true,
      busy := s.busy && ownerOf i != .consumer,
      hold := if s.mustFinish (ownerOf i) i then none else s.hold }
  | .error _ => { s with rstN := true, ready := true }

end Sys2Proof.Machine
end

