-- ==== Sys2Proof/Machine/Step.lean ====
section
/-! DEFINITION. The step: the next turn of the list is performed. With no turn left nobody takes a step and nothing changes (log 6). -/

namespace Sys2Proof.Machine

def step (s : State) : Host.Outcome State Fault Refusal :=
  match s.turns with
  | [] => .next s
  | t :: rest => runTurn t (s.withTurns rest)

/-- The state in which the next step performs exactly the operation the word names (log 6). -/
def State.withFetchWord (s : State) (_nbits w : Nat) : State :=
  (s.readyFor (fetchWord w)).withTurns (turnOfWord (fetchWord w) s.choice :: s.turns)

end Sys2Proof.Machine
end

