-- ==== Sys2Proof/Safety.lean ====
section
/-! DEFINITION. The terms in which claims are stated: the invariants of the machine (spec/10_state.md R27, spec/20_memory.md R37), the
properties of the tone ROM (spec/40_waveform_table.md R74), the queue's contents as a list, runs of operations and of clock edges,
and the slot classifier of spec/41_sample_cache.md R92 (d). -/

namespace Sys2Proof.Machine

/-! Tone ROM -/

/-- Exact sum of a sequence of samples (R74 T7, R92 (e)). -/
def sampleSum (l : List Sample) : Int := (l.map BitVec.toInt).sum

/-- Properties T1 to T7, which any tone ROM must keep (R74, U3). Of T7 only the sum of TONE1: its sum of TONE0, 189416, is that of the
default ROM alone, and the truncated ROM that R73 and N1 say keeps R74 has 189408 (a conflict of the spec, log 33). -/
structure ToneOk (p : Params) : Prop where
  t1 : p.tone0[0] = 0#16 ∧ p.tone1[0] = 0#16
  t2 : ∀ i : Fin 10, (-30000 ≤ p.tone0[i].toInt ∧ p.tone0[i].toInt ≤ 30000) ∧
        (-30000 ≤ p.tone1[i].toInt ∧ p.tone1[i].toInt ≤ 30000)
  t3 : (∀ i : Fin 10, 0 ≤ p.tone0[i].toInt) ∧ 0 < p.tone0[9].toInt
  t4 : p.tone1[9].toInt < 0 ∧ ∀ i : Fin 5, p.tone1[i.val] = -p.tone1[i.val + 5]
  t5 : ∀ i : Fin 9, p.tone0[i.val + 1] = p.tone0[9 - i.val]
  t6 : [p.tone0.toList, negList p.tone0.toList, p.tone1.toList, negList p.tone1.toList].Nodup
  t7 : sampleSum p.tone1.toList = 0

/-! Cursors and views -/

/-- R27 in differences modulo 32: `rd_p`, `rd`, `wr_c`, `wr` stand in this order and span at most 16. -/
def State.viewsOk (s : State) : Prop :=
  (s.rd - s.rdP).toNat + (s.wrC - s.rd).toNat + (s.wr - s.wrC).toNat ≤ 16

/-- R27 as it is written: counts behind the cursors and views. -/
def State.countsOk (s : State) : Prop :=
  ∃ rp r wc w : Nat, rp ≤ r ∧ r ≤ wc ∧ wc ≤ w ∧ w ≤ rp + 16 ∧
    s.rdP.toNat = rp % 32 ∧ s.rd.toNat = r % 32 ∧ s.wrC.toNat = wc % 32 ∧ s.wr.toNat = w % 32

/-- The same order with the first synchroniser stages between a cursor and its view (R23, R37, R48). -/
def State.chainOk (s : State) : Prop :=
  (ungray s.rdGrayS1 - s.rdP).toNat + (s.rd - ungray s.rdGrayS1).toNat + (s.wrC - s.rd).toNat +
    (ungray s.wrGrayS1 - s.wrC).toNat + (s.wr - ungray s.wrGrayS1).toNat ≤ 16

/-- The invariant of the machine at both levels. -/
structure State.Inv (s : State) : Prop where
  /-- Cursors, stages and views in order (R27, R37). -/
  chain : s.chainOk
  /-- `wr_gray = gray(wr)` (R23). -/
  wrCode : s.wrGray = gray s.wr
  /-- `rd_gray = gray(rd)` (R23). -/
  rdCode : s.rdGray = gray s.rd
  /-- A SEND between its steps has its slot (R122). -/
  holdRoom : s.hold.isSome = true → s.fullP = false
  /-- A block being emitted from the queue is still in it (R128). -/
  emission : s.busy = true → s.src = .draining → s.emptyC = false
  /-- Samples are written only for a block in `hold` (R110). -/
  sending : s.sendIdx.val ≠ 0 → s.hold.isSome = true
  /-- `c_last` goes with sample 119 of a block being emitted (R66). -/
  lastSample : s.cLast = true → s.busy = true ∧ s.sidx.val = 119
  /-- `ready` is 0 while reset is asserted (R24). -/
  resetHeld : s.rstN = false → s.ready = false
  /-- A stale tick is remembered only while the view is stale (R40). -/
  stale : s.staleTick = true → s.carrierC ≠ s.carrier

/-! The queue as a list -/

/-- The occupied slots, oldest first (R96). -/
def State.contents (s : State) : List Block :=
  (List.range s.occupancy).map (fun k => s.slotRead (s.rd + BitVec.ofNat 5 k))

/-- Two states that differ at most in slots the queue does not occupy (R105). -/
def deadSlotsApart (s t : State) : Prop :=
  t = { s with slots := t.slots } ∧ t.contents = s.contents

/-- A block is variant A or variant B of a cached symbol (R123). -/
def isCached (p : Params) (blk : Block) : Prop := ∃ y : Symbol, blk = (render p y).a ∨ blk = (render p y).b

/-- Every queued block, and the one in `hold`, is a cached variant (R123). -/
structure State.allCached (s : State) : Prop where
  queue : ∀ blk ∈ s.contents, isCached s.params blk
  held : ∀ blk, s.hold = some blk → isCached s.params blk

/-! Runs -/

/-- Operations performed one after another. -/
def runOps : List Instr → State → Host.Outcome State Fault Refusal
  | [], s => .next s
  | i :: is, s => andThen (exec i s) (runOps is)

/-- ENQ of a block offered on the internal data path (R98). -/
def offerBlock (blk : Block) (s : State) : Host.Outcome State Fault Refusal := exec .enq { s with dataPath := blk }

/-- ENQs of a list of blocks, in order (R103). -/
def offerBlocks : List Block → State → Host.Outcome State Fault Refusal
  | [], s => .next s
  | blk :: rest, s => andThen (offerBlock blk s) (offerBlocks rest)

/-- Operations performed one after another, with what each showed; it ends where one is refused. -/
def runShowing : List Instr → State → List Output × State
  | [], s => ([], s)
  | i :: is, s =>
    match exec i s with
    | .next t => (t.out :: (runShowing is t).1, (runShowing is t).2)
    | .fault _ => ([], s)
    | .refused _ => ([], s)

/-- Edges of the P clock, each with its pins and what its first stage samples (R48). -/
def pEdges : List (PPins × Cursor) → State → Host.Outcome State Fault Refusal
  | [], s => .next s
  | e :: es, s => andThen (pEdge e.1 e.2 s) (pEdges es)

/-- Edges of the C clock without a tick or a pause, each with what its first stages sample (R48, R128). -/
def cEdges : List (Cursor × Bool) → State → Host.Outcome State Fault Refusal
  | [], s => .next s
  | e :: es, s => andThen (cEdge { tick := false, pause := false } e.1 e.2 s) (cEdges es)

/-- The symbol an operation FETCHes and the block that FETCH returns, read off the states before and after it: the byte of an accepted
SEND and the block in `hold` (R122), FETCH's own (R89), and the fallback block a TICK emits (R119). None for an operation without one. -/
def fetchOf (i : Instr) (s t : State) : Option (Symbol × Block) :=
  match i with
  | .send arg => (byteOf arg).bind (fun b => if s.hold.isSome then none else t.hold.map (fun blk => (.byte b, blk)))
  | .fetch sym =>
    (symbolOf sym).bind (fun y => match t.out with
      | .returned blk => some (y, blk)
      | _ => none)
  | .tick =>
    match t.seqState, t.out with
    | .silent, .emitted blk _ => some (.silence, blk)
    | .carrierIdle, .emitted blk _ => some (.idle, blk)
    | _, _ => none
  | .setc _ => none
  | .isdr => none
  | .build _ => none
  | .enq => none
  | .peek => none
  | .advr => none
  | .reset => none
  | .syncw => none
  | .syncr => none
  | .syncc => none

/-- Operations performed one after another, one that is refused being left out, with the FETCHes made among them in order (R90). -/
def runFetching : List Instr → State → List (Symbol × Block) × State
  | [], s => ([], s)
  | i :: is, s =>
    match exec i s with
    | .next t => ((fetchOf i s t).toList ++ (runFetching is t).1, (runFetching is t).2)
    | .fault _ => runFetching is s
    | .refused _ => runFetching is s

/-- What every edge of the P clock leaves of a state, whatever P's work at it was: the turn is taken, the synchroniser has shifted, and
an edge shows nothing (R23, R48). -/
def State.pShifted (s : State) (rest : List Turn) : State :=
  { s with turns := rest, rdP := ungray s.rdGrayS1, rdGrayS1 := s.rdGray, out := .quiet }

/-! Infinite runs (R43) -/

/-- An infinite run: at each moment the requests to come are whatever the environment has made them, and one step is taken. -/
structure Run where
  state : Nat → State
  asked : Nat → List Turn
  steps : ∀ n, step ((state n).withTurns (asked n)) = .next (state (n + 1))

/-- From every moment on there is one at which the view is level with its owner, or is updated. -/
def Run.keepsUp {α : Type} (r : Run) (view owner : State → α) : Prop :=
  ∀ n, ∃ m, n ≤ m ∧ (view (r.state m) = owner (r.state m) ∨ view (r.state (m + 1)) ≠ view (r.state m))

/-- Fairness of agent X (R43): no SYNCW, SYNCR or SYNCC stays enabled for ever without being taken. -/
structure Run.fair (r : Run) : Prop where
  syncw : r.keepsUp State.wrC State.wr
  syncr : r.keepsUp State.rdP State.rd
  syncc : r.keepsUp State.carrierC State.carrier

/-- A value does not change from a moment on. -/
def Run.settled {α : Type} (r : Run) (f : State → α) (n : Nat) : Prop := ∀ m, n ≤ m → f (r.state m) = f (r.state n)

/-! Whose operation it is -/

/-- Operations that C or X may perform between the two steps of a SEND (R122, R145); BUILD touches nothing. -/
def besideProducer : Instr → Bool
  | .send _ => false
  | .setc _ => false
  | .isdr => false
  | .enq => false
  | .reset => false
  | .build _ => true
  | .fetch _ => true
  | .peek => true
  | .advr => true
  | .tick => true
  | .syncw => true
  | .syncr => true
  | .syncc => true

/-- Operations that neither set the carrier nor reset (R40). -/
def keepsCarrier : Instr → Bool
  | .setc _ => false
  | .reset => false
  | .send _ => true
  | .isdr => true
  | .enq => true
  | .build _ => true
  | .fetch _ => true
  | .peek => true
  | .advr => true
  | .tick => true
  | .syncw => true
  | .syncr => true
  | .syncc => true

/-- A turn of Level A that neither sets the carrier nor resets, whatever its word decodes to (R40). Level B's turns are not among them:
there the synchroniser carries the carrier across (R48). -/
def Turn.keepsCarrier : Turn → Bool
  | .op _ w _ => (decode w).toOption.all Machine.keepsCarrier
  | .port _ w => (decode w).toOption.all (fun i => !isPortOp i || Machine.keepsCarrier i)
  | .sendBytes _ _ => true
  | .sendBytesStep => true
  | .dropBatch => true
  | .deq => true
  | .togc => false
  | .pClk _ => false
  | .cClk _ => false
  | .bothClk _ _ _ => false
  | .resetPin _ => false
  | .initDone => true

/-- Steps of the machine, one after another. -/
def runSteps : Nat → State → Host.Outcome State Fault Refusal
  | 0, s => .next s
  | n + 1, s => andThen (step s) (runSteps n)

/-- A step from `s` to `t` that is a TICK of C: the turn first in the list asks for it, and the step takes that turn. -/
def isTickStep (s t : State) : Prop :=
  ∃ n, s.turns = .op .consumer (encode .tick) n :: t.turns ∧ step s = .next t

/-! The slot classifier of R92 (d) -/

/-- The ten samples of slot `j` of a block (R52). -/
def slotOf (blk : Block) (j : Nat) : List Sample := (blk.toList.drop (10 * j)).take 10

/-- A slot is a zero-tone slot, of either polarity. -/
def isZeroTone (p : Params) (l : List Sample) : Bool := l == p.tone0.toList || l == negList p.tone0.toList

/-- The byte of an emitted byte block and whether it is variant B: bit `i` is 1 iff slot `i + 1` is zero-tone, and slot 0 tells the
variant (R92 (d)). -/
def demodulate (p : Params) (blk : Block) : Byte × Bool :=
  (BitVec.ofBoolListLE ((List.range 8).map (fun i => isZeroTone p (slotOf blk (i + 1)))) |>.setWidth 8,
   slotOf blk 0 == negList p.tone1.toList)

end Sys2Proof.Machine
end

