-- ==== Sys2Proof/Certificates/Slice0/Obligations.lean ====
section
/-! DEFINITION. The statements for the provers, one definition each. Each docstring names the rule of spec/ it formalises, or the log
entry it rests on. -/

open Sys2Proof Sys2Proof.Machine

/-! ## Reset -/

/-- R28 and R10's reset column, R23's reset column: what reset leaves. (The slot contents of `State.reset` are the model's choice,
log 3, and are not stated; nor are the fields of log 17.) -/
def Obligations.ResetStateHoldsSpecValues : Prop :=
  let s := State.reset
  s.params.tone0 = tone0Default ∧ s.params.tone1 = tone1Default ∧
  s.lastSense = false ∧ s.wr = 0#5 ∧ s.rd = 0#5 ∧ s.wrC = 0#5 ∧ s.rdP = 0#5 ∧
  s.carrier = false ∧ s.carrierC = false ∧ s.seqState = .silent ∧ s.hold = none ∧
  s.wrGray = 0#5 ∧ s.rdGray = 0#5 ∧ s.wrGrayS1 = 0#5 ∧ s.wrGrayS2 = 0#5 ∧ s.rdGrayS1 = 0#5 ∧ s.rdGrayS2 = 0#5 ∧
  s.carrierS1 = false ∧ s.sidx = 0 ∧ s.src = .silent ∧ s.pol = false ∧ s.busy = false ∧ s.ready = true ∧
  s.drainedP = true ∧ s.fullP = false

/-- R155, R10, R23: RESET completes in every state and writes every element of both levels but the slots, whose contents are unspecified
(the model's free values, log 4), `carrier_s[1]` as the parameter of `carrier` says (log 35); the parameters are the machine's constants. A second RESET gives the same state but for the slots and
the count of free values. -/
def Obligations.ResetOperationWritesEveryElement : Prop :=
  ∀ s : State, ∃ t, exec .reset s = .next t ∧
    t.params = s.params ∧ t.lastSense = s.params.lastSenseReset ∧
    t.wr = 0#5 ∧ t.rd = 0#5 ∧ t.wrC = 0#5 ∧ t.rdP = 0#5 ∧
    t.carrier = s.params.carrierReset ∧ t.carrierC = s.params.carrierReset ∧ t.seqState = .silent ∧ t.hold = none ∧
    (∀ y, t.cacheRead y = render s.params y) ∧
    t.wrGray = 0#5 ∧ t.rdGray = 0#5 ∧ t.wrGrayS1 = 0#5 ∧ t.wrGrayS2 = 0#5 ∧ t.rdGrayS1 = 0#5 ∧ t.rdGrayS2 = 0#5 ∧
    t.carrierS1 = s.params.carrierReset ∧ t.sidx = 0 ∧ t.src = .silent ∧ t.pol = false ∧
    t.busy = false ∧ t.ready = true ∧ t.turns = s.turns ∧
    ∃ u, exec .reset t = .next u ∧ u = { t with slots := u.slots, freeCount := u.freeCount }

/-- The invariant holds at reset. -/
def Obligations.InvariantHoldsAtReset : Prop := State.reset.Inv

/-- R27, R23, R24, R110, R128: every step, of either level, keeps the invariant. -/
def Obligations.StepKeepsInvariant : Prop :=
  ∀ s t : State, s.Inv → step s = .next t → t.Inv

/-- The inference the spec marks "[derived: from rule R17, ...]" at R27: the invariant gives the counts behind the cursors and views, the
occupancy is at most 16, P's view of it is between the occupancy and 16, and C's view of it is at most the occupancy. -/
def Obligations.InvariantGivesCursorCounts : Prop :=
  ∀ s : State, s.Inv →
    s.viewsOk ∧ s.countsOk ∧ s.occupancy ≤ 16 ∧ s.occupancy ≤ (s.wr - s.rdP).toNat ∧ (s.wr - s.rdP).toNat ≤ 16 ∧
    (s.wrC - s.rd).toNat ≤ s.occupancy

/-- R13, R14, R46: no step changes the tone ROM or any cached record. -/
def Obligations.NoStepChangesRomOrCache : Prop :=
  ∀ s t : State, step s = .next t → t.params = s.params ∧ ∀ y, t.cacheRead y = s.cacheRead y

/-! ## Encoding -/

/-- R59, R61: decoding an encoded operation gives it back with its whole operand, and every word that decodes is the encoding of what
it decodes to. -/
def Obligations.DecodeAndEncodeAgree : Prop :=
  (∀ i : Instr, decode (encode i) = .ok i) ∧ (∀ (w : OpWord) (i : Instr), decode w = .ok i → encode i = w)

/-- R59, R61: the decoder and the table of match and mask agree on all 8192 words: no word matches two rows, a word that decodes
matches its own row, and a word that is reserved matches none. -/
def Obligations.DecoderFollowsOpcodeTable : Prop :=
  (∀ (w : OpWord) (r q : OpRow), r ∈ opRows → q ∈ opRows → r.matches w = true → q.matches w = true → r = q) ∧
  (∀ (w : OpWord) (i : Instr), decode w = .ok i → ∃ r ∈ opRows, r.matches w = true ∧ r.opid = i.opid) ∧
  (∀ (w : OpWord) (e : DecodeError), decode w = .error e → ∀ r ∈ opRows, r.matches w = false) ∧
  (∀ i : Instr, (encode i).toNat = i.opid.toNat * 512 + i.arg.toNat)

/-- V50 of 95_test_vectors.md: words written out from R59. -/
def Obligations.SpecWordsDecode : Prop :=
  decode 0b0001001000001#13 = .ok (.send 0x41#9) ∧ decode 0b0010000000001#13 = .ok (.setc true) ∧
  decode 0b0011000000000#13 = .ok .isdr ∧ decode 0b0100001000001#13 = .ok (.build 0x41#9) ∧
  decode 0b0101100000001#13 = .ok (.fetch 0x101#9) ∧ decode 0b0110000000000#13 = .ok .enq ∧
  decode 0b1001000000000#13 = .ok .tick ∧ decode 0b1010000000000#13 = .ok .reset ∧
  decode 0b1101000000000#13 = .ok .syncc ∧ decode 0b0000000000000#13 = .error .reservedOpid ∧
  decode 0b0010000000010#13 = .error .reservedArg

/-- R50, R51: the byte view of a block is 240 bytes, low byte of a sample first, and reading it back gives the samples. -/
def Obligations.ByteViewIsLittleEndian : Prop :=
  ∀ blk : Block, (blockBytes blk).length = 240 ∧ samplesOfBytes (blockBytes blk) = blk.toList ∧
    ∀ k : Fin 120, (blockBytes blk)[2 * k.val]? = some (blk[k].extractLsb' 0 8) ∧
      (blockBytes blk)[2 * k.val + 1]? = some (blk[k].extractLsb' 8 8)

/-- R55: the gray code and its inverse, one bit between consecutive codes (across the wrap too), the equality and full tests on codes,
and the printed table. -/
def Obligations.GrayCodeTableAndTests : Prop :=
  (∀ b : Cursor, gray b = b ^^^ (b >>> 1)) ∧
  (∀ g : Cursor, (ungray g).getLsbD 4 = g.getLsbD 4 ∧
    ∀ i : Fin 4, (ungray g).getLsbD i.val = (g.getLsbD i.val ^^ (ungray g).getLsbD (i.val + 1))) ∧
  (∀ b : Cursor, ungray (gray b) = b ∧ gray (ungray b) = b) ∧
  (∀ b : Cursor, ((List.range 5).filter (fun i => (gray b).getLsbD i != (gray (b + 1#5)).getLsbD i)).length = 1) ∧
  (∀ w r : Cursor, w = r ↔ gray w = gray r) ∧
  (∀ w r : Cursor, w - r = 16#5 ↔ gray w = gray r ^^^ 0b11000#5) ∧
  ((List.range 32).map (fun b => (gray (BitVec.ofNat 5 b)).toNat) =
    [0, 1, 3, 2, 6, 7, 5, 4, 12, 13, 15, 14, 10, 11, 9, 8, 24, 25, 27, 26, 30, 31, 29, 28, 20, 21, 23, 22, 18, 19, 17, 16])

/-! ## The step and the producer port -/

/-- A turn of an agent that may perform the operation its word names runs exactly that operation: on the state with the turn taken and
its `choice` in place (log 6, log 7), when the agent is not held up (R24, R66, R131; that `ready = 0` does not hold up X is log 30) and no
SYNCC of X is due before its TICK. Where one is due, the step is exactly that SYNCC and the TICK waits, first in the list; the step after
it is the TICK (R40, V43; that X's step comes then is log 9). -/
def Obligations.StepRunsTheDecodedOperation : Prop :=
  (∀ (s : State) (who : Agent) (w : OpWord) (n : Nat) (rest : List Turn) (i : Instr),
    s.turns = .op who w n :: rest → decode w = .ok i → mayIssue who i = true →
    (who = .host ∨ who = .crossing ∨ s.ready = true) → (who = .consumer → s.busy = false) →
    (who = .producer → s.hold = none ∨ i = .enq) →
    (i = .tick → s.staleTick = false ∨ s.carrierC = s.carrier) →
    step s = exec i ((s.withTurns rest).withChoice n)) ∧
  (∀ (s : State) (w : OpWord) (n : Nat) (rest : List Turn),
    s.turns = .op .consumer w n :: rest → decode w = .ok .tick → s.ready = true → s.busy = false →
    s.staleTick = true → s.carrierC ≠ s.carrier →
    step s = exec .syncc s ∧
    ∃ x, step s = .next x ∧ x.turns = s.turns ∧ x.carrierC = s.carrier ∧ step x = exec .tick ((x.withTurns rest).withChoice n))

/-- R61: an accepted word of the producer port that is SEND, SETC or ISDR is carried out; every other word, reserved or internal, is
answered BADCMD with nothing else changed. At Level B (R65, R129) the same at the P clock's edge that accepts the word: an accepted SEND
does step 1 and does not answer yet, a refused one answers without a write, SETC writes `carrier` and answers, ISDR and a word that is
BADCMD answer, and an edge without a word answers nothing. (That step 1 takes no clock of its own is log 19; that a BADCMD and a
refused SEND are answered on the cycle after acceptance, as R129 says of SETC and ISDR, is log 36; the bits 3 and 4
of `p_rsp` are log 20 and are not stated; the value of `p_rsp` without a response is log 31.) -/
def Obligations.PortRunsItsCommandsOrAnswersBadCmd : Prop :=
  (∀ (s : State) (w : OpWord) (rest : List Turn),
    s.turns = .port .producer w :: rest → s.ready = true → s.hold = none →
    let s' := s.withTurns rest
    (∀ arg, decode w = .ok (.send arg) → step s = exec (.send arg) s') ∧
    (∀ v, decode w = .ok (.setc v) → step s = exec (.setc v) s') ∧
    (decode w = .ok .isdr → step s = exec .isdr s') ∧
    ((∀ arg, decode w ≠ .ok (.send arg)) → (∀ v, decode w ≠ .ok (.setc v)) → decode w ≠ .ok .isdr →
      step s = .next { s' with out := .response (responseWord .badCmd s'.drainedP s'.fullP) })) ∧
  (∀ (s : State) (w : OpWord) (rest : List Turn), s.ready = true → s.rstN = true → s.hold = none →
    let s' := s.pShifted rest
    let answers (t : State) (code : BitVec 3) : Prop :=
      ∃ r : BitVec 5, r.extractLsb' 0 3 = code ∧ step s = .next { t with pRspValid := true, pRsp := r }
    (s.turns = .pClk ⟨false, w⟩ :: rest → step s = .next { s' with pRspValid := false }) ∧
    (s.turns = .pClk ⟨true, w⟩ :: rest →
      (∀ arg, decode w = .ok (.send arg) → arg[8] = false → s.fullGray = false →
        let rec' := render s.params (.byte (arg.setWidth 8))
        step s = .next { s' with
          lastSense := s.lastSense ^^ rec'.cont
          hold := some (if s.lastSense then rec'.b else rec'.a)
          pRspValid := false
          sendIdx := 0 }) ∧
      (∀ arg, decode w = .ok (.send arg) → arg[8] = true ∨ s.fullGray = true →
        answers s' (if arg[8] then 2#3 else 1#3)) ∧
      (∀ v, decode w = .ok (.setc v) → ∃ k, answers { s' with carrier := v, staleTick := k } 0#3) ∧
      (decode w = .ok .isdr → answers s' 0#3) ∧
      ((∀ arg, decode w ≠ .ok (.send arg)) → (∀ v, decode w ≠ .ok (.setc v)) → decode w ≠ .ok .isdr →
        answers s' 3#3)))

/-- R138: BADCMD before BADSYM before FULL, on the producer port. -/
def Obligations.ErrorPriorityOnThePort : Prop :=
  ∀ (s : State) (w : OpWord) (rest : List Turn),
    s.turns = .port .producer w :: rest → s.ready = true → s.hold = none →
    ∃ t, step s = .next t ∧
      (((∃ e, decode w = .error e) ∨ (∃ i, decode w = .ok i ∧ isPortOp i = false)) →
        ∃ r, t.out = .response r ∧ r.extractLsb' 0 3 = 3#3) ∧
      (∀ arg, decode w = .ok (.send arg) → arg[8] = true →
        ∃ r, t.out = .response r ∧ r.extractLsb' 0 3 = 2#3) ∧
      (∀ arg, decode w = .ok (.send arg) → arg[8] = false → s.fullP = true →
        ∃ r, t.out = .response r ∧ r.extractLsb' 0 3 = 1#3)

/-- R137: an operation that answers an error changes no state element; only what the step shows (`out`) differs. SEND with a malformed
operand or on a full queue (no FETCH), FETCH and BUILD of a malformed code, ENQ on a full queue in both its forms, ADVR on an empty
queue (and PEEK, whose normal answer EMPTY is), and a word the port answers BADCMD. -/
def Obligations.ErrorsChangeNothing : Prop :=
  (∀ (s : State) (arg : SymCode), s.hold = none → (arg[8] = true ∨ s.fullP = true) →
    ∃ o, exec (.send arg) s = .next { s with out := o } ∧
      o = .response (responseWord (if arg[8] then .badSym else .full) s.drainedP s.fullP)) ∧
  (∀ (s : State) (sym : SymCode), 0x102 ≤ sym.toNat →
    exec (.fetch sym) s = .next { s with out := .status .badSym } ∧
    exec (.build sym) s = .next { s with out := .status .badSym }) ∧
  (∀ s : State, s.fullP = true → ∃ o, exec .enq s = .next { s with out := o } ∧
    (s.hold = none → o = .status .full)) ∧
  (∀ s : State, s.emptyC = true → exec .advr s = .next { s with out := .status .empty } ∧
    exec .peek s = .next { s with out := .status .empty }) ∧
  (∀ (s : State) (w : OpWord) (rest : List Turn),
    s.turns = .port .producer w :: rest → s.ready = true → s.hold = none →
    ((∃ e, decode w = .error e) ∨ (∃ i, decode w = .ok i ∧ isPortOp i = false)) →
    step s = .next { s with turns := rest, out := .response (responseWord .badCmd s.drainedP s.fullP) })

/-- R60: the response word of every command of the port, ISDR, SETC, SEND and the ENQ that ends a SEND: bit 3 is `drained_p` and bit 4
`full_p` of the state after the command, bits 2 to 0 are 0 to 3. -/
def Obligations.ResponseWordDescribesTheStateAfter : Prop :=
  ∀ (i : Instr) (s t : State) (r : BitVec 5),
    (isPortOp i = true ∨ i = .enq) → exec i s = .next t → t.out = .response r →
    (i = .enq → s.hold ≠ none) →
    r[3] = t.drainedP ∧ r[4] = t.fullP ∧ (r.extractLsb' 0 3).toNat ≤ 3

/-- R131: while `hold` is not empty, whatever P was to do next waits and P takes step 2 of its SEND, the ENQ of `hold`; the request
stays first in the list. ENQ asked for by name is that step itself. -/
def Obligations.HeldBlockIsEnqueuedFirst : Prop :=
  ∀ (s : State) (blk : Block) (rest : List Turn), s.hold = some blk → s.ready = true →
    (∀ w, s.turns = .port .producer w :: rest → step s = exec .enq s) ∧
    (∀ w n i, s.turns = .op .producer w n :: rest → decode w = .ok i → mayIssue .producer i = true → i ≠ .enq →
      step s = exec .enq s) ∧
    (∀ w n, s.turns = .op .producer w n :: rest → decode w = .ok .enq →
      step s = exec .enq ((s.withTurns rest).withChoice n)) ∧
    (s.turns = .togc :: rest → step s = exec .enq s) ∧
    (∀ bytes, s.turns = .sendBytes .producer bytes :: rest → step s = exec .enq s) ∧
    (s.turns = .sendBytesStep :: rest → step s = exec .enq (s.withTurns rest))

/-- R141: runs that have no meaning are refused: (a) a second producer or consumer, (b) an agent's operation asked for by the other,
(c) at Level B a tick while `busy`, a tick or a command while `ready = 0`, (d) the spin of SEND_BYTES outside the producer context. -/
def Obligations.MeaninglessRunsAreRefused : Prop :=
  ∀ (s : State) (rest : List Turn),
    (∀ w n i, s.turns = .op .other w n :: rest → decode w = .ok i → step s = .refused .notPermitted) ∧
    (∀ w, s.turns = .port .other w :: rest → step s = .refused .notPermitted) ∧
    (∀ w n i, s.turns = .op .consumer w n :: rest → decode w = .ok i →
      (i = .enq ∨ i = .isdr ∨ (∃ v, i = .setc v) ∨ ∃ arg, i = .send arg) → step s = .refused .notPermitted) ∧
    (∀ w n i, s.turns = .op .producer w n :: rest → decode w = .ok i → (i = .peek ∨ i = .advr ∨ i = .tick) →
      step s = .refused .notPermitted) ∧
    (∀ pause, s.turns = .cClk ⟨true, pause⟩ :: rest → s.ready = true → s.busy = true →
      step s = .refused .tickWhileBusy) ∧
    (∀ pause, s.turns = .cClk ⟨true, pause⟩ :: rest → s.ready = false → step s = .refused .notReady) ∧
    (∀ w, s.turns = .pClk ⟨true, w⟩ :: rest → s.ready = false → step s = .refused .notReady) ∧
    (∀ pins pause cross, s.turns = .bothClk pins ⟨true, pause⟩ cross :: rest → s.ready = true → s.busy = true →
      step s = .refused .tickWhileBusy) ∧
    (∀ pins cpins cross, s.turns = .bothClk pins cpins cross :: rest → s.ready = false →
      (pins.valid = true ∨ cpins.tick = true) → step s = .refused .notReady) ∧
    (∀ w, s.turns = .port .producer w :: rest → s.ready = false → step s = .refused .notReady) ∧
    (∀ who bytes, s.turns = .sendBytes who bytes :: rest → who ≠ .producer → step s = .refused .notPermitted)

/-! ## Completion and result, operation by operation -/

/-- R120: SETC completes whenever the port is open, writes `carrier` and nothing else of the block; with the value `carrier` already has
it changes nothing. (`staleTick` is the model's own mark for R40's bound, log 9.) -/
def Obligations.SetcWritesTheCarrier : Prop :=
  ∀ (s : State) (v : Bool), s.hold = none →
    (∃ t, exec (.setc v) s = .next t ∧ t.carrier = v ∧
      t.out = .response (responseWord .ok s.drainedP s.fullP) ∧
      t = { s with carrier := v, staleTick := t.staleTick, out := t.out }) ∧
    exec (.setc s.carrier) s = .next { s with out := .response (responseWord .ok s.drainedP s.fullP) }

/-- R100: ISDR completes whenever the port is open, answers `wr = rd_p` in bit 3 with status OK, and changes nothing. -/
def Obligations.IsdrAnswersDrained : Prop :=
  ∀ s : State, s.hold = none →
    ∃ r, exec .isdr s = .next { s with out := .response r } ∧ r.extractLsb' 0 3 = 0#3 ∧
      (r[3] = true ↔ s.wr = s.rdP)

/-- R88, R81: BUILD completes on every code: on the 258 valid ones with the record of that symbol, a function of the tone ROM and the
code alone. Nothing else changes. -/
def Obligations.BuildReturnsTheRecord : Prop :=
  ∀ s : State,
    (∀ y : Symbol, exec (.build (symbolCode y)) s = .next { s with out := .record (render s.params y) }) ∧
    (∀ sym : SymCode, (∃ y, symbolCode y = sym) ↔ sym.toNat < 0x102)

/-- R89: FETCH of a valid symbol completes in every state, returns variant A when `lastSense = 0` and B when it is 1, and writes
`lastSense xor cont`; besides `lastSense` only the internal data path and what the step shows change (log 5, log 11). -/
def Obligations.FetchReturnsTheSelectedVariant : Prop :=
  ∀ (s : State) (y : Symbol),
    let rec' := render s.params y
    let blk := if s.lastSense then rec'.b else rec'.a
    exec (.fetch (symbolCode y)) s =
      .next { s with lastSense := s.lastSense ^^ rec'.cont, dataPath := blk, out := .returned blk }

/-- R122 step 1: SEND of a byte completes whenever the port is open and P sees room: it fetches the byte into `hold` and updates
`lastSense`; every other element, the slots and `wr` among them, is as before. -/
def Obligations.SendFetchesIntoHold : Prop :=
  ∀ (s : State) (arg : SymCode), s.hold = none → arg[8] = false → s.fullP = false →
    let rec' := render s.params (.byte (arg.setWidth 8))
    exec (.send arg) s =
      .next { s with
        lastSense := s.lastSense ^^ rec'.cont
        hold := some (if s.lastSense then rec'.b else rec'.a)
        out := .quiet }

/-- R98: ENQ completes whenever P sees room. The block (the one in `hold` during a SEND, else the one on the internal data path, log 5)
is in slot `wr mod 16`, every other slot reads as before, `wr` is one more modulo 32 (with its gray register), `hold` is empty, and
nothing else changes but what the step shows; the ENQ of a SEND answers OK on the port (R122). -/
def Obligations.EnqStoresAndAdvances : Prop :=
  ∀ s : State, s.fullP = false →
    ∃ t, exec .enq s = .next t ∧
      t.slotRead s.wr = s.hold.getD s.dataPath ∧
      (∀ c, slotIndex c ≠ slotIndex s.wr → t.slotRead c = s.slotRead c) ∧
      t.wr = s.wr + 1#5 ∧ t.wrGray = gray t.wr ∧ t.hold = none ∧
      (s.hold ≠ none → t.out = .response (responseWord .ok t.drainedP t.fullP)) ∧
      (s.hold = none → t.out = .status .ok) ∧
      t = { s with slots := t.slots, wr := t.wr, wrGray := t.wrGray, hold := none, sendIdx := t.sendIdx, out := t.out }

/-- R101: PEEK completes in every state: the head block where C sees one, else EMPTY; it changes nothing. -/
def Obligations.PeekAnswersTheHeadBlock : Prop :=
  ∀ s : State,
    (s.wrC ≠ s.rd → exec .peek s = .next { s with out := .returned (s.slotRead s.rd) }) ∧
    (s.wrC = s.rd → exec .peek s = .next { s with out := .status .empty })

/-- R102: ADVR completes whenever C sees a block: `rd` is one more modulo 32 (with its gray register) and nothing else changes; the slot
keeps its contents. -/
def Obligations.AdvrRetiresTheHeadBlock : Prop :=
  ∀ s : State, s.wrC ≠ s.rd →
    exec .advr s = .next { s with rd := s.rd + 1#5, rdGray := gray (s.rd + 1#5), out := .status .ok }

/-- R116, R117, R118: TICK completes in every state, emits one block with the continue signal, and the table decides by C's view of the
queue and by `carrier_c` as it stands at its start (R121). The previous `seqState` is no input, and any state can follow any. -/
def Obligations.TickFollowsTheDecisionTable : Prop :=
  (∀ s : State, ∃ t blk, exec .tick s = .next t ∧ t.out = .emitted blk true ∧
    (s.wrC ≠ s.rd → t.seqState = .draining ∧ blk = s.slotRead s.rd ∧ t.rd = s.rd + 1#5 ∧ t.lastSense = s.lastSense) ∧
    (s.wrC = s.rd → s.carrierC = true →
      t.seqState = .carrierIdle ∧
      blk = (if s.lastSense then (render s.params .idle).b else (render s.params .idle).a) ∧
      t.rd = s.rd ∧ (ToneOk s.params → t.lastSense = s.lastSense)) ∧
    (s.wrC = s.rd → s.carrierC = false →
      t.seqState = .silent ∧ blk = silenceWf ∧ t.rd = s.rd ∧ t.lastSense = !s.lastSense)) ∧
  (∀ (s : State) (q : SeqState), exec .tick { s with seqState := q } = exec .tick s) ∧
  (∀ a b : SeqState, ∃ s t, s.seqState = a ∧ exec .tick s = .next t ∧ t.seqState = b)

/-- R115, R145, R146: what TICK leaves as it was: every slot, `wr`, the three views, `carrier`, `hold`, every Level B register but
`rd_gray`, the data path, the free values and the requests; it never changes both `rd` and `lastSense`. (`staleTick` is the model's own
mark for R40's bound, log 9.) -/
def Obligations.TickLeavesTheRestAlone : Prop :=
  ∀ s t : State, exec .tick s = .next t →
    (t.rd = s.rd ∨ t.lastSense = s.lastSense) ∧
    t = { s with
      lastSense := t.lastSense, rd := t.rd, rdGray := t.rdGray, seqState := t.seqState, out := t.out,
      staleTick := t.staleTick }

/-- R38: SYNCW where `wr_c != wr` moves `wr_c` forward by at least one and at most up to `wr`, every such amount can be the one taken,
and it writes nothing else (the first synchroniser stage apart, log 23). -/
def Obligations.SyncwMovesTheViewForward : Prop :=
  ∀ s : State, s.wrC ≠ s.wr →
    (∃ (t : State) (d : Cursor), exec .syncw s = .next t ∧ 0 < d.toNat ∧ d.toNat ≤ (s.wr - s.wrC).toNat ∧
      t.wrC = s.wrC + d ∧ t = { s with wrC := t.wrC, wrGrayS1 := t.wrGrayS1, out := .quiet }) ∧
    (∀ d : Cursor, 0 < d.toNat → d.toNat ≤ (s.wr - s.wrC).toNat →
      ∃ n t, exec .syncw (s.withChoice n) = .next t ∧ t.wrC = s.wrC + d)

/-- R39: SYNCR, the same for `rd_p` and `rd`. -/
def Obligations.SyncrMovesTheViewForward : Prop :=
  ∀ s : State, s.rdP ≠ s.rd →
    (∃ (t : State) (d : Cursor), exec .syncr s = .next t ∧ 0 < d.toNat ∧ d.toNat ≤ (s.rd - s.rdP).toNat ∧
      t.rdP = s.rdP + d ∧ t = { s with rdP := t.rdP, rdGrayS1 := t.rdGrayS1, out := .quiet }) ∧
    (∀ d : Cursor, 0 < d.toNat → d.toNat ≤ (s.rd - s.rdP).toNat →
      ∃ n t, exec .syncr (s.withChoice n) = .next t ∧ t.rdP = s.rdP + d)

/-- R40: SYNCC copies `carrier` into `carrier_c` and writes nothing else of Level A; and after a SETC, with no other SETC and no RESET
among the steps that follow, at most one TICK reads the old value: the second and every later one reads the new, and where C sees no
block it emits by it. -/
def Obligations.CarrierIsStaleForAtMostOneTick : Prop :=
  (∀ s : State, s.carrierC ≠ s.carrier → ∃ t, exec .syncc s = .next t ∧ t.carrierC = s.carrier ∧
    t = { s with carrierC := t.carrierC, carrierS1 := t.carrierS1, staleTick := t.staleTick, out := .quiet }) ∧
  (∀ (s s1 a b c d : State) (v : Bool) (m n : Nat),
    exec (.setc v) s = .next s1 → (∀ t ∈ s1.turns, t.keepsCarrier = true) →
    runSteps m s1 = .next a → isTickStep a b → runSteps n b = .next c → isTickStep c d →
    c.carrierC = v ∧
    (c.wrC = c.rd →
      d.seqState = (if v then .carrierIdle else .silent) ∧
      d.out = .emitted (if v then
        (if c.lastSense then (render c.params .idle).b else (render c.params .idle).a) else silenceWf) true))

/-! ## Waveforms -/

/-- The list T1 to T7 that the spec marks "[derived: from rule R73]" (R74): the default ROM has these properties, the sum of its TONE0
among them (which `ToneOk` does not ask of every ROM, log 33). -/
def Obligations.DefaultRomHasToneProperties : Prop :=
  ToneOk standardParams ∧ sampleSum standardParams.tone0.toList = 189416

/-- R75 and R76 (the first and last sample and the sum are the spec's own inference, "[derived: from rule R74]"): the two fixed patterns,
for every ROM with the properties of R74. -/
def Obligations.FixedPatternsAreAsStated : Prop :=
  (∀ k : Fin 120, silenceWf[k] = 0#16) ∧
  (∀ p : Params, ToneOk p →
    (∀ k : Fin 120, (idleWf p)[k] = if k.val / 10 % 2 = 0 then p.tone0[k.val % 10] else -p.tone0[k.val % 10]) ∧
    (idleWf p)[0] = 0#16 ∧ (idleWf p)[119] = -p.tone0[9] ∧ sampleSum (idleWf p).toList = 0) ∧
  (idleWf standardParams)[119].toInt = -9271

/-- R82, R83: sample `k` of slot `j` of a byte's waveform. Slot 0 is one-tone; data slot `i + 1` is zero-tone iff bit `i` is 1; slots 9
to 11 are zero-tone; a slot is negated iff an odd number of zero-tone slots came before it. -/
def Obligations.WaveformSlotsFollowBitsAndSense : Prop :=
  ∀ (p : Params) (b : Byte) (j : Fin 12) (k : Fin 10),
    let isZero : Nat → Bool := fun j => if j = 0 then false else if j ≤ 8 then b.getLsbD (j - 1) else true
    let v := if isZero j.val then p.tone0[k] else p.tone1[k]
    let before := ((List.range j.val).filter isZero).length
    (wave p b)[10 * j.val + k.val]'(by omega) = if before % 2 = 0 then v else -v

/-- R84 (an inference the spec marks "[derived: from rule R87 and rule R89]"): the record of silence, 120 zeros in both variants, and what
FETCH of it does. -/
def Obligations.SilenceRecordAndFetch : Prop :=
  (∀ k : Fin 120, silenceWf[k] = 0#16) ∧
  ∀ s : State, s.cacheRead .silence = { a := silenceWf, b := silenceWf, cont := true } ∧
    ∃ t, exec (.fetch Config.symSilence) s = .next t ∧ t.out = .returned silenceWf ∧ t.lastSense = !s.lastSense

/-- R85 (its last sentence an inference the spec marks "[derived: from rule R87 and rule R89]"): the record of idle-carrier, and what FETCH
of it does, for every ROM with the properties of R74. -/
def Obligations.IdleRecordAndFetch : Prop :=
  ∀ s : State, ToneOk s.params →
    (s.cacheRead .idle).a = idleWf s.params ∧
    (s.cacheRead .idle).b.toList = rep 6 (negList s.params.tone0.toList ++ s.params.tone0.toList) ∧
    (s.cacheRead .idle).cont = false ∧
    ∃ t, exec (.fetch Config.symIdle) s = .next t ∧ t.lastSense = s.lastSense

/-- R86: variant B is the exact sample-wise negation of variant A for every symbol; no sample's magnitude exceeds 30000, so nothing
overflows; negating twice gives the sequence back. -/
def Obligations.VariantsAreExactNegations : Prop :=
  (∀ (p : Params) (y : Symbol), ToneOk p → ∀ k : Fin 120,
    (render p y).b[k].toInt = -(render p y).a[k].toInt ∧
    -30000 ≤ (render p y).a[k].toInt ∧ (render p y).a[k].toInt ≤ 30000 ∧
    (render p y).b[k].toNat = (65536 - (render p y).a[k].toNat) % 65536) ∧
  (∀ blk : Block, negBlock (negBlock blk) = blk) ∧ (-(0#16) = 0#16)

/-- R87 (the parity is the spec's own inference, "[derived: from rule R83 and ...]"): `cont` is 1 iff the last sample of variant A is non-negative; for a byte, iff its number of 1 bits is even. -/
def Obligations.ContinuityFlagIsEvenParity : Prop :=
  ∀ p : Params, ToneOk p →
    (∀ y : Symbol, (render p y).cont = true ↔ 0 ≤ ((render p y).a[119]).toInt) ∧
    (∀ b : Byte, (render p (.byte b)).cont = true ↔ popcount b % 2 = 0) ∧
    (render p .silence).cont = true ∧ (render p .idle).cont = false

/-- R90: after any sequence of operations without a RESET, `lastSense` is the xor of the starting value and the flags of the symbols
FETCHed among them, by SEND, FETCH and the fallback of TICK, in the order in which they were; and the block each FETCH returned is the
variant that the xor of the flags before it selects. A sequence of FETCHes of valid symbols alone shows those blocks. From reset the
starting value is 0. -/
def Obligations.LastSenseIsAFoldOfFlags : Prop :=
  (∀ (s : State) (is : List Instr), (∀ i ∈ is, i ≠ .reset) →
    let run := runFetching is s
    let sense : Nat → Bool := fun k => (run.1.take k).foldl (fun x e => x ^^ (render s.params e.1).cont) s.lastSense
    run.2.lastSense = sense run.1.length ∧
    ∀ (k : Nat) (h : k < run.1.length),
      run.1[k].2 = (if sense k then (render s.params run.1[k].1).b else (render s.params run.1[k].1).a)) ∧
  (∀ (s : State) (ys : List Symbol),
    let run := runShowing (ys.map (fun y => .fetch (symbolCode y))) s
    let sense : Nat → Bool := fun k => (ys.take k).foldl (fun x y => x ^^ (render s.params y).cont) s.lastSense
    run.2.lastSense = sense ys.length ∧
    run.1 = (List.range ys.length).zipWith
      (fun k y => .returned (if sense k then (render s.params y).b else (render s.params y).a)) ys)

/-- R92 (d), V6, facts the spec infers from R83: from an emitted block of a byte, in either variant, the slot classifier recovers the byte and the variant. -/
def Obligations.ByteIsRecoverableFromItsBlock : Prop :=
  ∀ (p : Params) (b : Byte), ToneOk p →
    demodulate p (render p (.byte b)).a = (b, false) ∧ demodulate p (render p (.byte b)).b = (b, true)

/-- R92 (b), (e), facts the spec infers from R83: every sample `10j` of both variants of every symbol is 0; the sum of variant A of a byte
is the sum of one zero-tone when its number of 1 bits is even and 0 when it is odd; of silence and idle-carrier 0. With the default ROM
the sum of one zero-tone is 189416 (log 33). -/
def Obligations.WaveformSumsAndSlotStarts : Prop :=
  (∀ p : Params, ToneOk p →
    (∀ (y : Symbol) (j : Fin 12), (render p y).a[10 * j.val]'(by omega) = 0#16 ∧ (render p y).b[10 * j.val]'(by omega) = 0#16) ∧
    (∀ b : Byte, sampleSum (render p (.byte b)).a.toList = if popcount b % 2 = 0 then sampleSum p.tone0.toList else 0) ∧
    sampleSum (render p .silence).a.toList = 0 ∧ sampleSum (render p .idle).a.toList = 0) ∧
  (∀ b : Byte, sampleSum (render standardParams (.byte b)).a.toList = if popcount b % 2 = 0 then 189416 else 0)

/-- R93, whose sentence the spec marks as its own inference, "[derived: from rule R87, rule R89 and rule R92]": with the default ROM, of two blocks fetched one after the other, the second moves away from zero in the direction the first
was going: after a block that ends positive its sample 1 is not positive, after one that ends negative it is not negative. -/
def Obligations.ConsecutiveFetchesAreContinuous : Prop :=
  ∀ (s : State) (y z : Symbol), s.params = standardParams →
    let x := (s.fetch y).1
    let w := ((s.fetch y).2.fetch z).1
    (0 < x[119].toInt → w[1].toInt ≤ 0) ∧ (x[119].toInt < 0 → 0 ≤ w[1].toInt)

/-! ## Queue -/

/-- R97 (its last sentence an inference the spec marks "[derived: from 20_memory.md rule R37 and 10_state.md rule R27]"): with cursors and
views in order, each predicate errs only in the safe direction, and each can lag. And the lag ends (R43): in an infinite run that is fair
to X, once the owner's cursor no longer changes its view comes level with it and stays so, and `carrier_c` comes level with a `carrier`
that no longer changes. (The run is the model's, log 6; fairness is a predicate on runs, log 10.) -/
def Obligations.QueuePredicatesErrOnTheSafeSide : Prop :=
  (∀ s : State, s.viewsOk →
    (s.drainedP = true → s.occupancy = 0) ∧ (s.fullP = false → s.occupancy < 16) ∧
    (s.emptyC = false → 0 < s.occupancy) ∧
    (s.rdP = s.rd → (s.drainedP = true ↔ s.occupancy = 0)) ∧
    (s.rdP = s.rd → (s.fullP = true ↔ s.occupancy = 16)) ∧
    (s.wrC = s.wr → (s.emptyC = true ↔ s.occupancy = 0))) ∧
  (∃ s : State, s.viewsOk ∧ s.occupancy = 0 ∧ s.drainedP = false) ∧
  (∃ s : State, s.viewsOk ∧ s.occupancy < 16 ∧ s.fullP = true) ∧
  (∃ s : State, s.viewsOk ∧ 0 < s.occupancy ∧ s.emptyC = true) ∧
  (∀ (r : Run) (n : Nat), (r.state 0).Inv → r.fair →
    (r.settled State.wr n → ∃ m, n ≤ m ∧ ∀ k, m ≤ k → (r.state k).wrC = (r.state k).wr) ∧
    (r.settled State.rd n → ∃ m, n ≤ m ∧ ∀ k, m ≤ k → (r.state k).rdP = (r.state k).rd) ∧
    (r.settled State.carrier n → ∃ m, n ≤ m ∧ (r.state m).carrierC = (r.state m).carrier))

/-- R103 and R105, which the spec marks as derived from the rules of ENQ, PEEK and ADVR: the queue is a list. ENQ appends its block, a PEEK that returns a block returns the first, ADVR and a draining TICK
drop the first (and TICK emits it), RESET empties it, and every other operation leaves the list as it was. -/
def Obligations.QueueIsAFifoList : Prop :=
  ∀ (i : Instr) (s t : State), s.viewsOk → exec i s = .next t →
    (i = .enq → s.fullP = false → t.contents = s.contents ++ [s.hold.getD s.dataPath]) ∧
    (i = .peek → s.emptyC = false → s.contents.head? = some (s.slotRead s.rd) ∧ t.out = .returned (s.slotRead s.rd)) ∧
    (i = .advr → s.emptyC = false → t.contents = s.contents.tail) ∧
    (i = .tick → s.emptyC = false → t.contents = s.contents.tail ∧
      ∃ blk, s.contents.head? = some blk ∧ t.out = .emitted blk true) ∧
    (i = .reset → t.contents = []) ∧
    (i ≠ .enq ∨ s.fullP = true → i ≠ .advr ∨ s.emptyC = true → i ≠ .tick ∨ s.emptyC = true → i ≠ .reset →
      t.contents = s.contents)

/-- R103, first half, which the spec marks as derived from the rules of ENQ, PEEK and ADVR: from a queue that both sides see drained, N ≤ 16 blocks offered one after the other are all taken; once `wr_c = wr`, N times
PEEK and ADVR return them in the order offered, and one more PEEK answers EMPTY. N = 16 included. -/
def Obligations.SixteenBlocksComeOutInOrder : Prop :=
  ∀ (s : State) (blks : List Block), s.hold = none → s.wr = s.rd → s.rdP = s.rd → s.wrC = s.wr → blks.length ≤ 16 →
    ∃ t, offerBlocks blks s = .next t ∧ t.wr = s.wr + BitVec.ofNat 5 blks.length ∧
      (runShowing ((List.replicate blks.length [Instr.peek, Instr.advr]).flatten ++ [.peek]) { t with wrC := t.wr }).1 =
        (blks.map (fun blk => [Output.returned blk, Output.status .ok])).flatten ++ [.status .empty]

/-- R41 item 3, an inference the spec marks "[derived: from rule R37 and 10_state.md rule R27]": the slot P may write is none of the slots C may read. -/
def Obligations.WrittenAndReadSlotsAreDisjoint : Prop :=
  ∀ (s : State) (k : Nat), s.viewsOk → s.fullP = false → k < (s.wrC - s.rd).toNat →
    slotIndex s.wr ≠ slotIndex (s.rd + BitVec.ofNat 5 k)

/-- R105, which the spec marks as derived, and U1: what stands in a slot the queue does not occupy never matters. Two states that differ only there are answered alike by every
operation, show the same, and again differ only there (a RESET draws the same free values in both). -/
def Obligations.UnoccupiedSlotsNeverMatter : Prop :=
  ∀ (i : Instr) (s s' : State), s.viewsOk → deadSlotsApart s s' →
    (∀ t, exec i s = .next t → ∃ t', exec i s' = .next t' ∧ t'.out = t.out ∧ deadSlotsApart t t') ∧
    (∀ r, exec i s = .refused r ↔ exec i s' = .refused r)

/-- R123, which the spec marks as derived from R115, R122 and R61: if every queued block is a cached variant, it stays so under every operation but an ENQ that is not the end of a SEND, and
every block a TICK emits is a cached variant. -/
def Obligations.EmittedBlocksAreCachedVariants : Prop :=
  ∀ (i : Instr) (s t : State), s.viewsOk → s.allCached → (i = .enq → s.hold ≠ none) → exec i s = .next t →
    t.allCached ∧ (∀ blk cont, i = .tick → t.out = .emitted blk cont → isCached s.params blk ∧ cont = true)

/-- R122, R97: between the two steps of a SEND the other agents may do anything of theirs; step 2 still answers OK and puts the variant
step 1 chose into the slot `wr mod 16`. -/
def Obligations.SendEndsWhateverHappensBetween : Prop :=
  ∀ (s s1 s2 : State) (arg : SymCode) (js : List Instr),
    s.viewsOk → s.hold = none → arg[8] = false → s.fullP = false → (∀ j ∈ js, besideProducer j = true) →
    exec (.send arg) s = .next s1 → runOps js s1 = .next s2 →
    let rec' := render s.params (.byte (arg.setWidth 8))
    ∃ t, exec .enq s2 = .next t ∧ t.slotRead s.wr = (if s.lastSense then rec'.b else rec'.a) ∧
      t.wr = s.wr + 1#5 ∧ t.hold = none ∧ t.out = .response (responseWord .ok t.drainedP t.fullP)

/-- R42, R145, R146: one writer for each element, and the three views written by X's operations only. An operation outside the list named for an element leaves it as it was (RESET apart). -/
def Obligations.EachElementHasItsWriters : Prop :=
  ∀ (i : Instr) (s t : State), exec i s = .next t → i ≠ .reset →
    (i ≠ .enq → t.wr = s.wr ∧ ∀ c, t.slotRead c = s.slotRead c) ∧
    (i ≠ .advr → i ≠ .tick → t.rd = s.rd) ∧
    (i ≠ .tick → t.seqState = s.seqState) ∧
    ((∀ v, i ≠ .setc v) → t.carrier = s.carrier) ∧
    ((∀ arg, i ≠ .send arg) → (∀ sym, i ≠ .fetch sym) → i ≠ .tick → t.lastSense = s.lastSense) ∧
    (i ≠ .syncw → t.wrC = s.wrC) ∧ (i ≠ .syncr → t.rdP = s.rdP) ∧
    (i ≠ .syncc → t.carrierC = s.carrierC) ∧
    ((∀ arg, i ≠ .send arg) → i ≠ .enq → t.hold = s.hold)

/-- R145, R146: a step taken by P, C or X writes only what its row of the table lists, and the views are written in steps of X alone.
Where C's turn is first but the SYNCC of R40 is due before its TICK, the step is that SYNCC of X and C's turn waits (log 9). -/
def Obligations.AgentsWriteOnlyTheirRow : Prop :=
  ∀ (s t : State) (who : Agent) (w : OpWord) (n : Nat) (rest : List Turn),
    s.turns = .op who w n :: rest → step s = .next t →
    (who = .producer → t.rd = s.rd ∧ t.seqState = s.seqState ∧ t.wrC = s.wrC ∧ t.rdP = s.rdP ∧ t.carrierC = s.carrierC ∧
      ∀ c, slotIndex c ≠ slotIndex s.wr → t.slotRead c = s.slotRead c) ∧
    (who = .consumer → t.turns = rest → t.wr = s.wr ∧ t.carrier = s.carrier ∧ t.hold = s.hold ∧ t.wrC = s.wrC ∧ t.rdP = s.rdP ∧
      t.carrierC = s.carrierC ∧ ∀ c, t.slotRead c = s.slotRead c) ∧
    (who = .consumer → t.turns ≠ rest → t.turns = s.turns ∧ decode w = .ok .tick ∧ s.staleTick = true ∧ s.carrierC ≠ s.carrier ∧
      step s = exec .syncc s) ∧
    (who = .crossing → t.wr = s.wr ∧ t.rd = s.rd ∧ t.carrier = s.carrier ∧ t.hold = s.hold ∧ t.lastSense = s.lastSense ∧
      t.seqState = s.seqState ∧ ∀ c, t.slotRead c = s.slotRead c)

/-! ## Order of the two contexts -/

/-- R160, which the spec marks as its own inference: when a carrier-idle tick falls between step 1 of a SEND and its ENQ, the idle block
comes out in the variant `lastSense xor cont` where emission order calls for the variant `lastSense`, the same one for a byte with
`cont = 0`; a fallback tick and the SEND's FETCH leave the same
`lastSense` in either order. -/
def Obligations.FallbackTickInThePendingWindow : Prop :=
  ∀ (s s1 s2 u1 u2 : State) (arg : SymCode),
    s.hold = none → s.fullP = false → arg[8] = false → s.emptyC = true →
    exec (.send arg) s = .next s1 → exec .tick s1 = .next s2 →
    exec .tick s = .next u1 → exec (.send arg) u1 = .next u2 →
    s2.lastSense = u2.lastSense ∧
    (s.carrierC = true →
      s2.out = .emitted (variantOf (render s.params .idle)
        (s.lastSense ^^ (render s.params (.byte (arg.setWidth 8))).cont)) true ∧
      u1.out = .emitted (variantOf (render s.params .idle) s.lastSense) true)

/-- R143: a tick that drains and a step of P's SEND, FETCH or ENQ, arriving together, give the same state in either order (but for what
the last of them showed). -/
def Obligations.DrainingTickAndSendCommute : Prop :=
  ∀ (i : Instr) (s s1 s2 u1 u2 : State), ((∃ arg, i = .send arg) ∨ i = .enq) → s.viewsOk → s.emptyC = false →
    exec i s = .next s1 → exec .tick s1 = .next s2 → exec .tick s = .next u1 → exec i u1 = .next u2 →
    { s2 with out := .quiet } = { u2 with out := .quiet } ∧ s2.out = u1.out

/-- R127, R167, R158, each of which the spec marks as its own inference: ticks with the carrier seen off and the queue empty emit silence, set SILENT, and toggle `lastSense` each time. -/
def Obligations.SilentTicksToggleThePhase : Prop :=
  ∀ (s : State) (n : Nat), s.wrC = s.rd → s.carrier = false → s.carrierC = false →
    let run := runShowing (List.replicate n .tick) s
    run.1 = List.replicate n (.emitted silenceWf true) ∧
    run.2.lastSense = (s.lastSense ^^ decide (n % 2 = 1)) ∧ (0 < n → run.2.seqState = .silent) ∧
    run.2.wr = s.wr ∧ run.2.rd = s.rd

/-! ## Composite operations -/

/-- R124, R125, R64: SEND_BYTES, case by case, P being between commands (R131). It starts by waiting for a drained queue, with the whole
batch still to send; each turn of the wait is one ISDR; not drained, it goes on waiting; drained, it goes on to the next byte's SEND, or
ends where no byte is left; a SEND with room FETCHes exactly the next byte into `hold` and leaves the rest; a SEND answered FULL changes
nothing and goes back to the wait with the same bytes. TOGC is SETC of not `carrier`. DEQ is PEEK and then ADVR: the head block where C
sees one, else EMPTY and nothing changed. (The batch as a field and its turns are the model's, log 15, log 34.) -/
def Obligations.BatchSendsItsBytesInOrder : Prop :=
  (∀ (s : State) (rest : List Turn), s.ready = true → s.hold = none →
    (∀ bytes, s.turns = .sendBytes .producer bytes :: rest →
      step s = .next { s with turns := rest, batch := some ⟨.waitDrain, bytes⟩, out := .quiet }) ∧
    (∀ bytes, s.turns = .sendBytesStep :: rest → s.batch = some ⟨.waitDrain, bytes⟩ →
      let answer := .response (responseWord .ok s.drainedP s.fullP)
      (s.wr ≠ s.rdP → step s = .next { s with turns := rest, out := answer }) ∧
      (s.wr = s.rdP → bytes = [] → step s = .next { s with turns := rest, batch := none, out := answer }) ∧
      (s.wr = s.rdP → bytes ≠ [] → step s = .next { s with turns := rest, batch := some ⟨.send, bytes⟩, out := answer })) ∧
    (∀ b more, s.turns = .sendBytesStep :: rest → s.batch = some ⟨.send, b :: more⟩ →
      (s.fullP = true → step s = .next { s with
        turns := rest, batch := some ⟨.waitDrain, b :: more⟩, out := .response (responseWord .full s.drainedP true) }) ∧
      (s.fullP = false →
        let rec' := render s.params (.byte b)
        step s = .next { s with
          turns := rest
          lastSense := s.lastSense ^^ rec'.cont
          hold := some (if s.lastSense then rec'.b else rec'.a)
          batch := if more = [] then none else some ⟨.send, more⟩
          out := .quiet })) ∧
    (s.turns = .togc :: rest → step s = exec (.setc (!s.carrier)) (s.withTurns rest))) ∧
  (∀ (s : State) (rest : List Turn), s.turns = .deq :: rest → s.ready = true → s.busy = false →
    (s.wrC ≠ s.rd → step s = .next { s with
      turns := rest, rd := s.rd + 1#5, rdGray := gray (s.rd + 1#5), out := .returned (s.slotRead s.rd) }) ∧
    (s.wrC = s.rd → step s = .next { s with turns := rest, out := .status .empty }))

/-! ## Level B -/

/-- R48: with the gray registers in step, the comparisons on gray codes are the Level A predicates. -/
def Obligations.GrayTestsAreTheCursorTests : Prop :=
  ∀ s : State, s.Inv → s.drainedGray = s.drainedP ∧ s.fullGray = s.fullP ∧ s.emptyGray = s.emptyC

/-- R110, R129: a SEND between its steps ends after 121 P clocks, whatever is offered on the port and whatever the synchroniser samples:
its block is in slot `wr mod 16`, every other slot is as before, `wr` is one more, `hold` is empty, and the port answers OK. -/
def Obligations.ClockedSendIsTheEnq : Prop :=
  ∀ (s : State) (blk : Block) (es : List (PPins × Cursor)),
    s.hold = some blk → s.sendIdx = 0 → s.ready = true → s.rstN = true → es.length = 121 →
    ∃ t, pEdges es s = .next t ∧ t.slotRead s.wr = blk ∧
      (∀ c, slotIndex c ≠ slotIndex s.wr → t.slotRead c = s.slotRead c) ∧
      t.wr = s.wr + 1#5 ∧ t.wrGray = gray (s.wr + 1#5) ∧ t.hold = none ∧ t.sendIdx = 0 ∧
      t.pRspValid = true ∧ t.pRsp.extractLsb' 0 3 = 0#3 ∧ t.lastSense = s.lastSense ∧ t.rd = s.rd

/-- R128: a `c_tick` and then C clocks without pause present, sample by sample, the block the Level A tick emits from the same state,
`c_last` with the last one; the clock after that ends the emission with Level A's `rd`, `lastSense` and `seqState`. -/
def Obligations.ClockedTickEmitsTheSameBlock : Prop :=
  ∀ (s s0 : State) (pause : Bool) (wrIn : Cursor) (carIn : Bool) (es : List (Cursor × Bool)),
    s.Inv → s.ready = true → s.rstN = true → s.busy = false →
    cEdge ⟨true, pause⟩ wrIn carIn s = .next s0 →
    let level := s.emitBlock
    (∀ k : Fin 120, es.length = k.val + 1 → ∃ t, cEdges es s0 = .next t ∧ t.cValid = true ∧ t.cData = level.1[k] ∧
      t.cLast = decide (k.val = 119) ∧ t.busy = true) ∧
    (es.length = 121 → ∃ t, cEdges es s0 = .next t ∧ t.busy = false ∧ t.cValid = false ∧ t.rd = level.2.rd ∧
      t.lastSense = level.2.lastSense ∧ t.seqState = level.2.seqState ∧ ∀ c, t.slotRead c = s.slotRead c)

/-- R24, R155, R157: the pin low resets every element at once, the slots apart, whose contents are unspecified, and drops `ready`; while it is low a clock edge without a command or a tick
changes nothing; releasing it leaves `ready` at 0, and `ready` rises when initialisation has finished, not before the release. (What
a step shows, and the order of these events as turns, are the model's, log 6, log 11, log 22; the value of `carrier_s[1]` where the
parameter of `carrier` is 1 is log 35.) -/
def Obligations.ResetPinHoldsTheMachine : Prop :=
  ∀ (s : State) (rest : List Turn),
    (s.turns = .resetPin false :: rest → ∃ t, step s = .next t ∧ t.ready = false ∧ t.rstN = false ∧ t.turns = rest ∧
      t.lastSense = s.params.lastSenseReset ∧ t.wr = 0#5 ∧ t.rd = 0#5 ∧ t.wrC = 0#5 ∧ t.rdP = 0#5 ∧
      t.carrier = s.params.carrierReset ∧ t.carrierC = s.params.carrierReset ∧ t.seqState = .silent ∧ t.hold = none ∧
      t.params = s.params ∧ (∀ y, t.cacheRead y = render s.params y) ∧
      t.wrGray = 0#5 ∧ t.rdGray = 0#5 ∧ t.wrGrayS1 = 0#5 ∧ t.wrGrayS2 = 0#5 ∧ t.rdGrayS1 = 0#5 ∧ t.rdGrayS2 = 0#5 ∧
      t.carrierS1 = s.params.carrierReset ∧ t.sidx = 0 ∧ t.src = .silent ∧ t.pol = false ∧ t.busy = false) ∧
    (∀ w, s.turns = .pClk ⟨false, w⟩ :: rest → s.rstN = false → step s = .next { s with turns := rest, out := .quiet }) ∧
    (∀ pause, s.turns = .cClk ⟨false, pause⟩ :: rest → s.rstN = false →
      step s = .next { s with turns := rest, out := .quiet }) ∧
    (s.turns = .resetPin true :: rest → step s = .next { s with rstN := true, turns := rest, out := .quiet }) ∧
    (s.turns = .initDone :: rest → step s = .next { s with ready := s.ready || s.rstN, turns := rest, out := .quiet })

/-- R48, R49, R143, and R23, R37: two edges of a clock carry the other side's cursor, and the carrier, across. Any two P edges take `rd` into `rd_p` and any
two C edges without a tick take `wr` and `carrier` into their views, when no edge of the other clock falls between. An edge of both clocks at
one instant is the P edge and the C edge each taken on the values before it: the second stages take the first, each first stage samples
the old or the new value of what the other side changes at that instant, and every register of a side but those that hang on `lastSense`
is as its own edge alone leaves it. FETCHes of both sides go either one first: `lastSense` is the same, and the side that comes second
finds what the first left. (Edges as turns, log 18.) -/
def Obligations.TwoEdgesCarryACursorAcross : Prop :=
  (∀ (s : State) (rest : List Turn), s.Inv → s.rstN = true → s.ready = true →
    (∀ p1 p2, s.turns = .pClk p1 :: .pClk p2 :: rest →
      ∃ t u, step s = .next t ∧ step t = .next u ∧ t.rdP = ungray s.rdGrayS1 ∧ t.rdGrayS1 = s.rdGray ∧ u.rdP = s.rd ∧
        u.rd = s.rd) ∧
    (∀ a b, s.turns = .cClk ⟨false, a⟩ :: .cClk ⟨false, b⟩ :: rest →
      ∃ t u, step s = .next t ∧ step t = .next u ∧ t.wrC = ungray s.wrGrayS1 ∧ t.wrGrayS1 = s.wrGray ∧
        t.carrierC = s.carrierS1 ∧ t.carrierS1 = s.carrier ∧ u.wrC = s.wr ∧ u.carrierC = s.carrier ∧
        u.wr = s.wr ∧ u.carrier = s.carrier)) ∧
  (∀ (s : State) (rest : List Turn) (pins : PPins) (cpins : CPins) (cross : CrossChoice),
    s.Inv → s.rstN = true → s.ready = true → (cpins.tick = true → s.busy = false) →
    s.turns = .bothClk pins cpins cross :: rest →
    ∃ t p c, step s = .next t ∧ pEdge pins s.rdGray s = .next p ∧ cEdge cpins s.wrGray s.carrier s = .next c ∧
      t.turns = rest ∧ t.params = s.params ∧
      (t.rdP = ungray s.rdGrayS1 ∧ t.wrC = ungray s.wrGrayS1 ∧ t.carrierC = s.carrierS1) ∧
      (t.rdGrayS1 = (if cross.rdNew then c.rdGray else s.rdGray) ∧
        t.wrGrayS1 = (if cross.wrNew then p.wrGray else s.wrGray) ∧
        t.carrierS1 = (if cross.carrierNew then p.carrier else s.carrier)) ∧
      (t.slots = p.slots ∧ t.wr = p.wr ∧ t.wrGray = p.wrGray ∧ t.carrier = p.carrier ∧ t.sendIdx = p.sendIdx ∧
        t.pRspValid = p.pRspValid ∧ t.pRsp = p.pRsp ∧ t.hold.isSome = p.hold.isSome) ∧
      (t.rd = c.rd ∧ t.rdGray = c.rdGray ∧ t.seqState = c.seqState ∧ t.src = c.src ∧ t.sidx = c.sidx ∧
        t.busy = c.busy ∧ t.cValid = c.cValid ∧ t.cData = c.cData ∧ t.cLast = c.cLast) ∧
      t.lastSense = (s.lastSense ^^ (s.lastSense ^^ p.lastSense) ^^ (s.lastSense ^^ c.lastSense)) ∧
      (s.hold ≠ none → t.hold = p.hold) ∧
      (∀ arg, s.hold = none → pins.valid = true → decode pins.cmd = .ok (.send arg) → arg[8] = false → s.fullP = false →
        t.hold = some (variantOf (render s.params (.byte (arg.setWidth 8))) (if cross.pFirst then s.lastSense else c.lastSense))) ∧
      t.pol = (if cpins.tick ∧ s.emptyC then (if cross.pFirst then p.lastSense else s.lastSense) else s.pol))
end

