-- ==== Sys2Proof/Laws/State.lean ====
section
/-! SUPPORT. One lemma per field per state update, each true by rfl, so that no later proof unfolds a record update. -/

namespace Sys2Proof.Machine

section
variable (s : State)

/-! withTurns -/
@[simp] theorem State.withTurns_params (l : List Turn) : (s.withTurns l).params = s.params := rfl
@[simp] theorem State.withTurns_lastSense (l : List Turn) : (s.withTurns l).lastSense = s.lastSense := rfl
@[simp] theorem State.withTurns_slots (l : List Turn) : (s.withTurns l).slots = s.slots := rfl
@[simp] theorem State.withTurns_wr (l : List Turn) : (s.withTurns l).wr = s.wr := rfl
@[simp] theorem State.withTurns_rd (l : List Turn) : (s.withTurns l).rd = s.rd := rfl
@[simp] theorem State.withTurns_wrC (l : List Turn) : (s.withTurns l).wrC = s.wrC := rfl
@[simp] theorem State.withTurns_rdP (l : List Turn) : (s.withTurns l).rdP = s.rdP := rfl
@[simp] theorem State.withTurns_carrier (l : List Turn) : (s.withTurns l).carrier = s.carrier := rfl
@[simp] theorem State.withTurns_carrierC (l : List Turn) : (s.withTurns l).carrierC = s.carrierC := rfl
@[simp] theorem State.withTurns_seqState (l : List Turn) : (s.withTurns l).seqState = s.seqState := rfl
@[simp] theorem State.withTurns_hold (l : List Turn) : (s.withTurns l).hold = s.hold := rfl
@[simp] theorem State.withTurns_wrGray (l : List Turn) : (s.withTurns l).wrGray = s.wrGray := rfl
@[simp] theorem State.withTurns_rdGray (l : List Turn) : (s.withTurns l).rdGray = s.rdGray := rfl
@[simp] theorem State.withTurns_wrGrayS1 (l : List Turn) : (s.withTurns l).wrGrayS1 = s.wrGrayS1 := rfl
@[simp] theorem State.withTurns_rdGrayS1 (l : List Turn) : (s.withTurns l).rdGrayS1 = s.rdGrayS1 := rfl
@[simp] theorem State.withTurns_carrierS1 (l : List Turn) : (s.withTurns l).carrierS1 = s.carrierS1 := rfl
@[simp] theorem State.withTurns_sidx (l : List Turn) : (s.withTurns l).sidx = s.sidx := rfl
@[simp] theorem State.withTurns_src (l : List Turn) : (s.withTurns l).src = s.src := rfl
@[simp] theorem State.withTurns_pol (l : List Turn) : (s.withTurns l).pol = s.pol := rfl
@[simp] theorem State.withTurns_busy (l : List Turn) : (s.withTurns l).busy = s.busy := rfl
@[simp] theorem State.withTurns_ready (l : List Turn) : (s.withTurns l).ready = s.ready := rfl
@[simp] theorem State.withTurns_rstN (l : List Turn) : (s.withTurns l).rstN = s.rstN := rfl
@[simp] theorem State.withTurns_sendIdx (l : List Turn) : (s.withTurns l).sendIdx = s.sendIdx := rfl
@[simp] theorem State.withTurns_pRspValid (l : List Turn) : (s.withTurns l).pRspValid = s.pRspValid := rfl
@[simp] theorem State.withTurns_pRsp (l : List Turn) : (s.withTurns l).pRsp = s.pRsp := rfl
@[simp] theorem State.withTurns_cValid (l : List Turn) : (s.withTurns l).cValid = s.cValid := rfl
@[simp] theorem State.withTurns_cData (l : List Turn) : (s.withTurns l).cData = s.cData := rfl
@[simp] theorem State.withTurns_cLast (l : List Turn) : (s.withTurns l).cLast = s.cLast := rfl
@[simp] theorem State.withTurns_dataPath (l : List Turn) : (s.withTurns l).dataPath = s.dataPath := rfl
@[simp] theorem State.withTurns_staleTick (l : List Turn) : (s.withTurns l).staleTick = s.staleTick := rfl
@[simp] theorem State.withTurns_choice (l : List Turn) : (s.withTurns l).choice = s.choice := rfl
@[simp] theorem State.withTurns_freeCount (l : List Turn) : (s.withTurns l).freeCount = s.freeCount := rfl
@[simp] theorem State.withTurns_batch (l : List Turn) : (s.withTurns l).batch = s.batch := rfl
@[simp] theorem State.withTurns_turns (l : List Turn) : (s.withTurns l).turns = l := rfl
@[simp] theorem State.withTurns_out (l : List Turn) : (s.withTurns l).out = s.out := rfl

/-! withChoice -/
@[simp] theorem State.withChoice_params (n : Nat) : (s.withChoice n).params = s.params := rfl
@[simp] theorem State.withChoice_lastSense (n : Nat) : (s.withChoice n).lastSense = s.lastSense := rfl
@[simp] theorem State.withChoice_slots (n : Nat) : (s.withChoice n).slots = s.slots := rfl
@[simp] theorem State.withChoice_wr (n : Nat) : (s.withChoice n).wr = s.wr := rfl
@[simp] theorem State.withChoice_rd (n : Nat) : (s.withChoice n).rd = s.rd := rfl
@[simp] theorem State.withChoice_wrC (n : Nat) : (s.withChoice n).wrC = s.wrC := rfl
@[simp] theorem State.withChoice_rdP (n : Nat) : (s.withChoice n).rdP = s.rdP := rfl
@[simp] theorem State.withChoice_carrier (n : Nat) : (s.withChoice n).carrier = s.carrier := rfl
@[simp] theorem State.withChoice_carrierC (n : Nat) : (s.withChoice n).carrierC = s.carrierC := rfl
@[simp] theorem State.withChoice_seqState (n : Nat) : (s.withChoice n).seqState = s.seqState := rfl
@[simp] theorem State.withChoice_hold (n : Nat) : (s.withChoice n).hold = s.hold := rfl
@[simp] theorem State.withChoice_wrGray (n : Nat) : (s.withChoice n).wrGray = s.wrGray := rfl
@[simp] theorem State.withChoice_rdGray (n : Nat) : (s.withChoice n).rdGray = s.rdGray := rfl
@[simp] theorem State.withChoice_wrGrayS1 (n : Nat) : (s.withChoice n).wrGrayS1 = s.wrGrayS1 := rfl
@[simp] theorem State.withChoice_rdGrayS1 (n : Nat) : (s.withChoice n).rdGrayS1 = s.rdGrayS1 := rfl
@[simp] theorem State.withChoice_carrierS1 (n : Nat) : (s.withChoice n).carrierS1 = s.carrierS1 := rfl
@[simp] theorem State.withChoice_sidx (n : Nat) : (s.withChoice n).sidx = s.sidx := rfl
@[simp] theorem State.withChoice_src (n : Nat) : (s.withChoice n).src = s.src := rfl
@[simp] theorem State.withChoice_pol (n : Nat) : (s.withChoice n).pol = s.pol := rfl
@[simp] theorem State.withChoice_busy (n : Nat) : (s.withChoice n).busy = s.busy := rfl
@[simp] theorem State.withChoice_ready (n : Nat) : (s.withChoice n).ready = s.ready := rfl
@[simp] theorem State.withChoice_rstN (n : Nat) : (s.withChoice n).rstN = s.rstN := rfl
@[simp] theorem State.withChoice_sendIdx (n : Nat) : (s.withChoice n).sendIdx = s.sendIdx := rfl
@[simp] theorem State.withChoice_pRspValid (n : Nat) : (s.withChoice n).pRspValid = s.pRspValid := rfl
@[simp] theorem State.withChoice_pRsp (n : Nat) : (s.withChoice n).pRsp = s.pRsp := rfl
@[simp] theorem State.withChoice_cValid (n : Nat) : (s.withChoice n).cValid = s.cValid := rfl
@[simp] theorem State.withChoice_cData (n : Nat) : (s.withChoice n).cData = s.cData := rfl
@[simp] theorem State.withChoice_cLast (n : Nat) : (s.withChoice n).cLast = s.cLast := rfl
@[simp] theorem State.withChoice_dataPath (n : Nat) : (s.withChoice n).dataPath = s.dataPath := rfl
@[simp] theorem State.withChoice_staleTick (n : Nat) : (s.withChoice n).staleTick = s.staleTick := rfl
@[simp] theorem State.withChoice_choice (n : Nat) : (s.withChoice n).choice = n := rfl
@[simp] theorem State.withChoice_freeCount (n : Nat) : (s.withChoice n).freeCount = s.freeCount := rfl
@[simp] theorem State.withChoice_batch (n : Nat) : (s.withChoice n).batch = s.batch := rfl
@[simp] theorem State.withChoice_turns (n : Nat) : (s.withChoice n).turns = s.turns := rfl
@[simp] theorem State.withChoice_out (n : Nat) : (s.withChoice n).out = s.out := rfl

/-! answer -/
@[simp] theorem State.answer_params (o : Output) : (s.answer o).params = s.params := rfl
@[simp] theorem State.answer_lastSense (o : Output) : (s.answer o).lastSense = s.lastSense := rfl
@[simp] theorem State.answer_slots (o : Output) : (s.answer o).slots = s.slots := rfl
@[simp] theorem State.answer_wr (o : Output) : (s.answer o).wr = s.wr := rfl
@[simp] theorem State.answer_rd (o : Output) : (s.answer o).rd = s.rd := rfl
@[simp] theorem State.answer_wrC (o : Output) : (s.answer o).wrC = s.wrC := rfl
@[simp] theorem State.answer_rdP (o : Output) : (s.answer o).rdP = s.rdP := rfl
@[simp] theorem State.answer_carrier (o : Output) : (s.answer o).carrier = s.carrier := rfl
@[simp] theorem State.answer_carrierC (o : Output) : (s.answer o).carrierC = s.carrierC := rfl
@[simp] theorem State.answer_seqState (o : Output) : (s.answer o).seqState = s.seqState := rfl
@[simp] theorem State.answer_hold (o : Output) : (s.answer o).hold = s.hold := rfl
@[simp] theorem State.answer_wrGray (o : Output) : (s.answer o).wrGray = s.wrGray := rfl
@[simp] theorem State.answer_rdGray (o : Output) : (s.answer o).rdGray = s.rdGray := rfl
@[simp] theorem State.answer_wrGrayS1 (o : Output) : (s.answer o).wrGrayS1 = s.wrGrayS1 := rfl
@[simp] theorem State.answer_rdGrayS1 (o : Output) : (s.answer o).rdGrayS1 = s.rdGrayS1 := rfl
@[simp] theorem State.answer_carrierS1 (o : Output) : (s.answer o).carrierS1 = s.carrierS1 := rfl
@[simp] theorem State.answer_sidx (o : Output) : (s.answer o).sidx = s.sidx := rfl
@[simp] theorem State.answer_src (o : Output) : (s.answer o).src = s.src := rfl
@[simp] theorem State.answer_pol (o : Output) : (s.answer o).pol = s.pol := rfl
@[simp] theorem State.answer_busy (o : Output) : (s.answer o).busy = s.busy := rfl
@[simp] theorem State.answer_ready (o : Output) : (s.answer o).ready = s.ready := rfl
@[simp] theorem State.answer_rstN (o : Output) : (s.answer o).rstN = s.rstN := rfl
@[simp] theorem State.answer_sendIdx (o : Output) : (s.answer o).sendIdx = s.sendIdx := rfl
@[simp] theorem State.answer_pRspValid (o : Output) : (s.answer o).pRspValid = s.pRspValid := rfl
@[simp] theorem State.answer_pRsp (o : Output) : (s.answer o).pRsp = s.pRsp := rfl
@[simp] theorem State.answer_cValid (o : Output) : (s.answer o).cValid = s.cValid := rfl
@[simp] theorem State.answer_cData (o : Output) : (s.answer o).cData = s.cData := rfl
@[simp] theorem State.answer_cLast (o : Output) : (s.answer o).cLast = s.cLast := rfl
@[simp] theorem State.answer_dataPath (o : Output) : (s.answer o).dataPath = s.dataPath := rfl
@[simp] theorem State.answer_staleTick (o : Output) : (s.answer o).staleTick = s.staleTick := rfl
@[simp] theorem State.answer_choice (o : Output) : (s.answer o).choice = s.choice := rfl
@[simp] theorem State.answer_freeCount (o : Output) : (s.answer o).freeCount = s.freeCount := rfl
@[simp] theorem State.answer_batch (o : Output) : (s.answer o).batch = s.batch := rfl
@[simp] theorem State.answer_turns (o : Output) : (s.answer o).turns = s.turns := rfl
@[simp] theorem State.answer_out (o : Output) : (s.answer o).out = o := rfl

/-! slotWrite -/
@[simp] theorem State.slotWrite_params (c : Cursor) (blk : Block) : (s.slotWrite c blk).params = s.params := rfl
@[simp] theorem State.slotWrite_lastSense (c : Cursor) (blk : Block) : (s.slotWrite c blk).lastSense = s.lastSense := rfl
@[simp] theorem State.slotWrite_slots (c : Cursor) (blk : Block) : (s.slotWrite c blk).slots = s.slots.set (slotIndex c) blk := rfl
@[simp] theorem State.slotWrite_wr (c : Cursor) (blk : Block) : (s.slotWrite c blk).wr = s.wr := rfl
@[simp] theorem State.slotWrite_rd (c : Cursor) (blk : Block) : (s.slotWrite c blk).rd = s.rd := rfl
@[simp] theorem State.slotWrite_wrC (c : Cursor) (blk : Block) : (s.slotWrite c blk).wrC = s.wrC := rfl
@[simp] theorem State.slotWrite_rdP (c : Cursor) (blk : Block) : (s.slotWrite c blk).rdP = s.rdP := rfl
@[simp] theorem State.slotWrite_carrier (c : Cursor) (blk : Block) : (s.slotWrite c blk).carrier = s.carrier := rfl
@[simp] theorem State.slotWrite_carrierC (c : Cursor) (blk : Block) : (s.slotWrite c blk).carrierC = s.carrierC := rfl
@[simp] theorem State.slotWrite_seqState (c : Cursor) (blk : Block) : (s.slotWrite c blk).seqState = s.seqState := rfl
@[simp] theorem State.slotWrite_hold (c : Cursor) (blk : Block) : (s.slotWrite c blk).hold = s.hold := rfl
@[simp] theorem State.slotWrite_wrGray (c : Cursor) (blk : Block) : (s.slotWrite c blk).wrGray = s.wrGray := rfl
@[simp] theorem State.slotWrite_rdGray (c : Cursor) (blk : Block) : (s.slotWrite c blk).rdGray = s.rdGray := rfl
@[simp] theorem State.slotWrite_wrGrayS1 (c : Cursor) (blk : Block) : (s.slotWrite c blk).wrGrayS1 = s.wrGrayS1 := rfl
@[simp] theorem State.slotWrite_rdGrayS1 (c : Cursor) (blk : Block) : (s.slotWrite c blk).rdGrayS1 = s.rdGrayS1 := rfl
@[simp] theorem State.slotWrite_carrierS1 (c : Cursor) (blk : Block) : (s.slotWrite c blk).carrierS1 = s.carrierS1 := rfl
@[simp] theorem State.slotWrite_sidx (c : Cursor) (blk : Block) : (s.slotWrite c blk).sidx = s.sidx := rfl
@[simp] theorem State.slotWrite_src (c : Cursor) (blk : Block) : (s.slotWrite c blk).src = s.src := rfl
@[simp] theorem State.slotWrite_pol (c : Cursor) (blk : Block) : (s.slotWrite c blk).pol = s.pol := rfl
@[simp] theorem State.slotWrite_busy (c : Cursor) (blk : Block) : (s.slotWrite c blk).busy = s.busy := rfl
@[simp] theorem State.slotWrite_ready (c : Cursor) (blk : Block) : (s.slotWrite c blk).ready = s.ready := rfl
@[simp] theorem State.slotWrite_rstN (c : Cursor) (blk : Block) : (s.slotWrite c blk).rstN = s.rstN := rfl
@[simp] theorem State.slotWrite_sendIdx (c : Cursor) (blk : Block) : (s.slotWrite c blk).sendIdx = s.sendIdx := rfl
@[simp] theorem State.slotWrite_pRspValid (c : Cursor) (blk : Block) : (s.slotWrite c blk).pRspValid = s.pRspValid := rfl
@[simp] theorem State.slotWrite_pRsp (c : Cursor) (blk : Block) : (s.slotWrite c blk).pRsp = s.pRsp := rfl
@[simp] theorem State.slotWrite_cValid (c : Cursor) (blk : Block) : (s.slotWrite c blk).cValid = s.cValid := rfl
@[simp] theorem State.slotWrite_cData (c : Cursor) (blk : Block) : (s.slotWrite c blk).cData = s.cData := rfl
@[simp] theorem State.slotWrite_cLast (c : Cursor) (blk : Block) : (s.slotWrite c blk).cLast = s.cLast := rfl
@[simp] theorem State.slotWrite_dataPath (c : Cursor) (blk : Block) : (s.slotWrite c blk).dataPath = s.dataPath := rfl
@[simp] theorem State.slotWrite_staleTick (c : Cursor) (blk : Block) : (s.slotWrite c blk).staleTick = s.staleTick := rfl
@[simp] theorem State.slotWrite_choice (c : Cursor) (blk : Block) : (s.slotWrite c blk).choice = s.choice := rfl
@[simp] theorem State.slotWrite_freeCount (c : Cursor) (blk : Block) : (s.slotWrite c blk).freeCount = s.freeCount := rfl
@[simp] theorem State.slotWrite_batch (c : Cursor) (blk : Block) : (s.slotWrite c blk).batch = s.batch := rfl
@[simp] theorem State.slotWrite_turns (c : Cursor) (blk : Block) : (s.slotWrite c blk).turns = s.turns := rfl
@[simp] theorem State.slotWrite_out (c : Cursor) (blk : Block) : (s.slotWrite c blk).out = s.out := rfl

/-! setWr -/
@[simp] theorem State.setWr_params (v : Cursor) : (s.setWr v).params = s.params := rfl
@[simp] theorem State.setWr_lastSense (v : Cursor) : (s.setWr v).lastSense = s.lastSense := rfl
@[simp] theorem State.setWr_slots (v : Cursor) : (s.setWr v).slots = s.slots := rfl
@[simp] theorem State.setWr_wr (v : Cursor) : (s.setWr v).wr = v := rfl
@[simp] theorem State.setWr_rd (v : Cursor) : (s.setWr v).rd = s.rd := rfl
@[simp] theorem State.setWr_wrC (v : Cursor) : (s.setWr v).wrC = s.wrC := rfl
@[simp] theorem State.setWr_rdP (v : Cursor) : (s.setWr v).rdP = s.rdP := rfl
@[simp] theorem State.setWr_carrier (v : Cursor) : (s.setWr v).carrier = s.carrier := rfl
@[simp] theorem State.setWr_carrierC (v : Cursor) : (s.setWr v).carrierC = s.carrierC := rfl
@[simp] theorem State.setWr_seqState (v : Cursor) : (s.setWr v).seqState = s.seqState := rfl
@[simp] theorem State.setWr_hold (v : Cursor) : (s.setWr v).hold = s.hold := rfl
@[simp] theorem State.setWr_wrGray (v : Cursor) : (s.setWr v).wrGray = gray v := rfl
@[simp] theorem State.setWr_rdGray (v : Cursor) : (s.setWr v).rdGray = s.rdGray := rfl
@[simp] theorem State.setWr_wrGrayS1 (v : Cursor) : (s.setWr v).wrGrayS1 = s.wrGrayS1 := rfl
@[simp] theorem State.setWr_rdGrayS1 (v : Cursor) : (s.setWr v).rdGrayS1 = s.rdGrayS1 := rfl
@[simp] theorem State.setWr_carrierS1 (v : Cursor) : (s.setWr v).carrierS1 = s.carrierS1 := rfl
@[simp] theorem State.setWr_sidx (v : Cursor) : (s.setWr v).sidx = s.sidx := rfl
@[simp] theorem State.setWr_src (v : Cursor) : (s.setWr v).src = s.src := rfl
@[simp] theorem State.setWr_pol (v : Cursor) : (s.setWr v).pol = s.pol := rfl
@[simp] theorem State.setWr_busy (v : Cursor) : (s.setWr v).busy = s.busy := rfl
@[simp] theorem State.setWr_ready (v : Cursor) : (s.setWr v).ready = s.ready := rfl
@[simp] theorem State.setWr_rstN (v : Cursor) : (s.setWr v).rstN = s.rstN := rfl
@[simp] theorem State.setWr_sendIdx (v : Cursor) : (s.setWr v).sendIdx = s.sendIdx := rfl
@[simp] theorem State.setWr_pRspValid (v : Cursor) : (s.setWr v).pRspValid = s.pRspValid := rfl
@[simp] theorem State.setWr_pRsp (v : Cursor) : (s.setWr v).pRsp = s.pRsp := rfl
@[simp] theorem State.setWr_cValid (v : Cursor) : (s.setWr v).cValid = s.cValid := rfl
@[simp] theorem State.setWr_cData (v : Cursor) : (s.setWr v).cData = s.cData := rfl
@[simp] theorem State.setWr_cLast (v : Cursor) : (s.setWr v).cLast = s.cLast := rfl
@[simp] theorem State.setWr_dataPath (v : Cursor) : (s.setWr v).dataPath = s.dataPath := rfl
@[simp] theorem State.setWr_staleTick (v : Cursor) : (s.setWr v).staleTick = s.staleTick := rfl
@[simp] theorem State.setWr_choice (v : Cursor) : (s.setWr v).choice = s.choice := rfl
@[simp] theorem State.setWr_freeCount (v : Cursor) : (s.setWr v).freeCount = s.freeCount := rfl
@[simp] theorem State.setWr_batch (v : Cursor) : (s.setWr v).batch = s.batch := rfl
@[simp] theorem State.setWr_turns (v : Cursor) : (s.setWr v).turns = s.turns := rfl
@[simp] theorem State.setWr_out (v : Cursor) : (s.setWr v).out = s.out := rfl

/-! setRd -/
@[simp] theorem State.setRd_params (v : Cursor) : (s.setRd v).params = s.params := rfl
@[simp] theorem State.setRd_lastSense (v : Cursor) : (s.setRd v).lastSense = s.lastSense := rfl
@[simp] theorem State.setRd_slots (v : Cursor) : (s.setRd v).slots = s.slots := rfl
@[simp] theorem State.setRd_wr (v : Cursor) : (s.setRd v).wr = s.wr := rfl
@[simp] theorem State.setRd_rd (v : Cursor) : (s.setRd v).rd = v := rfl
@[simp] theorem State.setRd_wrC (v : Cursor) : (s.setRd v).wrC = s.wrC := rfl
@[simp] theorem State.setRd_rdP (v : Cursor) : (s.setRd v).rdP = s.rdP := rfl
@[simp] theorem State.setRd_carrier (v : Cursor) : (s.setRd v).carrier = s.carrier := rfl
@[simp] theorem State.setRd_carrierC (v : Cursor) : (s.setRd v).carrierC = s.carrierC := rfl
@[simp] theorem State.setRd_seqState (v : Cursor) : (s.setRd v).seqState = s.seqState := rfl
@[simp] theorem State.setRd_hold (v : Cursor) : (s.setRd v).hold = s.hold := rfl
@[simp] theorem State.setRd_wrGray (v : Cursor) : (s.setRd v).wrGray = s.wrGray := rfl
@[simp] theorem State.setRd_rdGray (v : Cursor) : (s.setRd v).rdGray = gray v := rfl
@[simp] theorem State.setRd_wrGrayS1 (v : Cursor) : (s.setRd v).wrGrayS1 = s.wrGrayS1 := rfl
@[simp] theorem State.setRd_rdGrayS1 (v : Cursor) : (s.setRd v).rdGrayS1 = s.rdGrayS1 := rfl
@[simp] theorem State.setRd_carrierS1 (v : Cursor) : (s.setRd v).carrierS1 = s.carrierS1 := rfl
@[simp] theorem State.setRd_sidx (v : Cursor) : (s.setRd v).sidx = s.sidx := rfl
@[simp] theorem State.setRd_src (v : Cursor) : (s.setRd v).src = s.src := rfl
@[simp] theorem State.setRd_pol (v : Cursor) : (s.setRd v).pol = s.pol := rfl
@[simp] theorem State.setRd_busy (v : Cursor) : (s.setRd v).busy = s.busy := rfl
@[simp] theorem State.setRd_ready (v : Cursor) : (s.setRd v).ready = s.ready := rfl
@[simp] theorem State.setRd_rstN (v : Cursor) : (s.setRd v).rstN = s.rstN := rfl
@[simp] theorem State.setRd_sendIdx (v : Cursor) : (s.setRd v).sendIdx = s.sendIdx := rfl
@[simp] theorem State.setRd_pRspValid (v : Cursor) : (s.setRd v).pRspValid = s.pRspValid := rfl
@[simp] theorem State.setRd_pRsp (v : Cursor) : (s.setRd v).pRsp = s.pRsp := rfl
@[simp] theorem State.setRd_cValid (v : Cursor) : (s.setRd v).cValid = s.cValid := rfl
@[simp] theorem State.setRd_cData (v : Cursor) : (s.setRd v).cData = s.cData := rfl
@[simp] theorem State.setRd_cLast (v : Cursor) : (s.setRd v).cLast = s.cLast := rfl
@[simp] theorem State.setRd_dataPath (v : Cursor) : (s.setRd v).dataPath = s.dataPath := rfl
@[simp] theorem State.setRd_staleTick (v : Cursor) : (s.setRd v).staleTick = s.staleTick := rfl
@[simp] theorem State.setRd_choice (v : Cursor) : (s.setRd v).choice = s.choice := rfl
@[simp] theorem State.setRd_freeCount (v : Cursor) : (s.setRd v).freeCount = s.freeCount := rfl
@[simp] theorem State.setRd_batch (v : Cursor) : (s.setRd v).batch = s.batch := rfl
@[simp] theorem State.setRd_turns (v : Cursor) : (s.setRd v).turns = s.turns := rfl
@[simp] theorem State.setRd_out (v : Cursor) : (s.setRd v).out = s.out := rfl

/-! setCarrier -/
@[simp] theorem State.setCarrier_params (v : Bool) : (s.setCarrier v).params = s.params := rfl
@[simp] theorem State.setCarrier_lastSense (v : Bool) : (s.setCarrier v).lastSense = s.lastSense := rfl
@[simp] theorem State.setCarrier_slots (v : Bool) : (s.setCarrier v).slots = s.slots := rfl
@[simp] theorem State.setCarrier_wr (v : Bool) : (s.setCarrier v).wr = s.wr := rfl
@[simp] theorem State.setCarrier_rd (v : Bool) : (s.setCarrier v).rd = s.rd := rfl
@[simp] theorem State.setCarrier_wrC (v : Bool) : (s.setCarrier v).wrC = s.wrC := rfl
@[simp] theorem State.setCarrier_rdP (v : Bool) : (s.setCarrier v).rdP = s.rdP := rfl
@[simp] theorem State.setCarrier_carrier (v : Bool) : (s.setCarrier v).carrier = v := rfl
@[simp] theorem State.setCarrier_carrierC (v : Bool) : (s.setCarrier v).carrierC = s.carrierC := rfl
@[simp] theorem State.setCarrier_seqState (v : Bool) : (s.setCarrier v).seqState = s.seqState := rfl
@[simp] theorem State.setCarrier_hold (v : Bool) : (s.setCarrier v).hold = s.hold := rfl
@[simp] theorem State.setCarrier_wrGray (v : Bool) : (s.setCarrier v).wrGray = s.wrGray := rfl
@[simp] theorem State.setCarrier_rdGray (v : Bool) : (s.setCarrier v).rdGray = s.rdGray := rfl
@[simp] theorem State.setCarrier_wrGrayS1 (v : Bool) : (s.setCarrier v).wrGrayS1 = s.wrGrayS1 := rfl
@[simp] theorem State.setCarrier_rdGrayS1 (v : Bool) : (s.setCarrier v).rdGrayS1 = s.rdGrayS1 := rfl
@[simp] theorem State.setCarrier_carrierS1 (v : Bool) : (s.setCarrier v).carrierS1 = s.carrierS1 := rfl
@[simp] theorem State.setCarrier_sidx (v : Bool) : (s.setCarrier v).sidx = s.sidx := rfl
@[simp] theorem State.setCarrier_src (v : Bool) : (s.setCarrier v).src = s.src := rfl
@[simp] theorem State.setCarrier_pol (v : Bool) : (s.setCarrier v).pol = s.pol := rfl
@[simp] theorem State.setCarrier_busy (v : Bool) : (s.setCarrier v).busy = s.busy := rfl
@[simp] theorem State.setCarrier_ready (v : Bool) : (s.setCarrier v).ready = s.ready := rfl
@[simp] theorem State.setCarrier_rstN (v : Bool) : (s.setCarrier v).rstN = s.rstN := rfl
@[simp] theorem State.setCarrier_sendIdx (v : Bool) : (s.setCarrier v).sendIdx = s.sendIdx := rfl
@[simp] theorem State.setCarrier_pRspValid (v : Bool) : (s.setCarrier v).pRspValid = s.pRspValid := rfl
@[simp] theorem State.setCarrier_pRsp (v : Bool) : (s.setCarrier v).pRsp = s.pRsp := rfl
@[simp] theorem State.setCarrier_cValid (v : Bool) : (s.setCarrier v).cValid = s.cValid := rfl
@[simp] theorem State.setCarrier_cData (v : Bool) : (s.setCarrier v).cData = s.cData := rfl
@[simp] theorem State.setCarrier_cLast (v : Bool) : (s.setCarrier v).cLast = s.cLast := rfl
@[simp] theorem State.setCarrier_dataPath (v : Bool) : (s.setCarrier v).dataPath = s.dataPath := rfl
@[simp] theorem State.setCarrier_staleTick (v : Bool) : (s.setCarrier v).staleTick = (s.staleTick && (s.carrier == v)) := rfl
@[simp] theorem State.setCarrier_choice (v : Bool) : (s.setCarrier v).choice = s.choice := rfl
@[simp] theorem State.setCarrier_freeCount (v : Bool) : (s.setCarrier v).freeCount = s.freeCount := rfl
@[simp] theorem State.setCarrier_batch (v : Bool) : (s.setCarrier v).batch = s.batch := rfl
@[simp] theorem State.setCarrier_turns (v : Bool) : (s.setCarrier v).turns = s.turns := rfl
@[simp] theorem State.setCarrier_out (v : Bool) : (s.setCarrier v).out = s.out := rfl

/-! setWrC -/
@[simp] theorem State.setWrC_params (v : Cursor) : (s.setWrC v).params = s.params := rfl
@[simp] theorem State.setWrC_lastSense (v : Cursor) : (s.setWrC v).lastSense = s.lastSense := rfl
@[simp] theorem State.setWrC_slots (v : Cursor) : (s.setWrC v).slots = s.slots := rfl
@[simp] theorem State.setWrC_wr (v : Cursor) : (s.setWrC v).wr = s.wr := rfl
@[simp] theorem State.setWrC_rd (v : Cursor) : (s.setWrC v).rd = s.rd := rfl
@[simp] theorem State.setWrC_wrC (v : Cursor) : (s.setWrC v).wrC = v := rfl
@[simp] theorem State.setWrC_rdP (v : Cursor) : (s.setWrC v).rdP = s.rdP := rfl
@[simp] theorem State.setWrC_carrier (v : Cursor) : (s.setWrC v).carrier = s.carrier := rfl
@[simp] theorem State.setWrC_carrierC (v : Cursor) : (s.setWrC v).carrierC = s.carrierC := rfl
@[simp] theorem State.setWrC_seqState (v : Cursor) : (s.setWrC v).seqState = s.seqState := rfl
@[simp] theorem State.setWrC_hold (v : Cursor) : (s.setWrC v).hold = s.hold := rfl
@[simp] theorem State.setWrC_wrGray (v : Cursor) : (s.setWrC v).wrGray = s.wrGray := rfl
@[simp] theorem State.setWrC_rdGray (v : Cursor) : (s.setWrC v).rdGray = s.rdGray := rfl
@[simp] theorem State.setWrC_wrGrayS1 (v : Cursor) : (s.setWrC v).wrGrayS1 = s.wrGray := rfl
@[simp] theorem State.setWrC_rdGrayS1 (v : Cursor) : (s.setWrC v).rdGrayS1 = s.rdGrayS1 := rfl
@[simp] theorem State.setWrC_carrierS1 (v : Cursor) : (s.setWrC v).carrierS1 = s.carrierS1 := rfl
@[simp] theorem State.setWrC_sidx (v : Cursor) : (s.setWrC v).sidx = s.sidx := rfl
@[simp] theorem State.setWrC_src (v : Cursor) : (s.setWrC v).src = s.src := rfl
@[simp] theorem State.setWrC_pol (v : Cursor) : (s.setWrC v).pol = s.pol := rfl
@[simp] theorem State.setWrC_busy (v : Cursor) : (s.setWrC v).busy = s.busy := rfl
@[simp] theorem State.setWrC_ready (v : Cursor) : (s.setWrC v).ready = s.ready := rfl
@[simp] theorem State.setWrC_rstN (v : Cursor) : (s.setWrC v).rstN = s.rstN := rfl
@[simp] theorem State.setWrC_sendIdx (v : Cursor) : (s.setWrC v).sendIdx = s.sendIdx := rfl
@[simp] theorem State.setWrC_pRspValid (v : Cursor) : (s.setWrC v).pRspValid = s.pRspValid := rfl
@[simp] theorem State.setWrC_pRsp (v : Cursor) : (s.setWrC v).pRsp = s.pRsp := rfl
@[simp] theorem State.setWrC_cValid (v : Cursor) : (s.setWrC v).cValid = s.cValid := rfl
@[simp] theorem State.setWrC_cData (v : Cursor) : (s.setWrC v).cData = s.cData := rfl
@[simp] theorem State.setWrC_cLast (v : Cursor) : (s.setWrC v).cLast = s.cLast := rfl
@[simp] theorem State.setWrC_dataPath (v : Cursor) : (s.setWrC v).dataPath = s.dataPath := rfl
@[simp] theorem State.setWrC_staleTick (v : Cursor) : (s.setWrC v).staleTick = s.staleTick := rfl
@[simp] theorem State.setWrC_choice (v : Cursor) : (s.setWrC v).choice = s.choice := rfl
@[simp] theorem State.setWrC_freeCount (v : Cursor) : (s.setWrC v).freeCount = s.freeCount := rfl
@[simp] theorem State.setWrC_batch (v : Cursor) : (s.setWrC v).batch = s.batch := rfl
@[simp] theorem State.setWrC_turns (v : Cursor) : (s.setWrC v).turns = s.turns := rfl
@[simp] theorem State.setWrC_out (v : Cursor) : (s.setWrC v).out = s.out := rfl

/-! setRdP -/
@[simp] theorem State.setRdP_params (v : Cursor) : (s.setRdP v).params = s.params := rfl
@[simp] theorem State.setRdP_lastSense (v : Cursor) : (s.setRdP v).lastSense = s.lastSense := rfl
@[simp] theorem State.setRdP_slots (v : Cursor) : (s.setRdP v).slots = s.slots := rfl
@[simp] theorem State.setRdP_wr (v : Cursor) : (s.setRdP v).wr = s.wr := rfl
@[simp] theorem State.setRdP_rd (v : Cursor) : (s.setRdP v).rd = s.rd := rfl
@[simp] theorem State.setRdP_wrC (v : Cursor) : (s.setRdP v).wrC = s.wrC := rfl
@[simp] theorem State.setRdP_rdP (v : Cursor) : (s.setRdP v).rdP = v := rfl
@[simp] theorem State.setRdP_carrier (v : Cursor) : (s.setRdP v).carrier = s.carrier := rfl
@[simp] theorem State.setRdP_carrierC (v : Cursor) : (s.setRdP v).carrierC = s.carrierC := rfl
@[simp] theorem State.setRdP_seqState (v : Cursor) : (s.setRdP v).seqState = s.seqState := rfl
@[simp] theorem State.setRdP_hold (v : Cursor) : (s.setRdP v).hold = s.hold := rfl
@[simp] theorem State.setRdP_wrGray (v : Cursor) : (s.setRdP v).wrGray = s.wrGray := rfl
@[simp] theorem State.setRdP_rdGray (v : Cursor) : (s.setRdP v).rdGray = s.rdGray := rfl
@[simp] theorem State.setRdP_wrGrayS1 (v : Cursor) : (s.setRdP v).wrGrayS1 = s.wrGrayS1 := rfl
@[simp] theorem State.setRdP_rdGrayS1 (v : Cursor) : (s.setRdP v).rdGrayS1 = s.rdGray := rfl
@[simp] theorem State.setRdP_carrierS1 (v : Cursor) : (s.setRdP v).carrierS1 = s.carrierS1 := rfl
@[simp] theorem State.setRdP_sidx (v : Cursor) : (s.setRdP v).sidx = s.sidx := rfl
@[simp] theorem State.setRdP_src (v : Cursor) : (s.setRdP v).src = s.src := rfl
@[simp] theorem State.setRdP_pol (v : Cursor) : (s.setRdP v).pol = s.pol := rfl
@[simp] theorem State.setRdP_busy (v : Cursor) : (s.setRdP v).busy = s.busy := rfl
@[simp] theorem State.setRdP_ready (v : Cursor) : (s.setRdP v).ready = s.ready := rfl
@[simp] theorem State.setRdP_rstN (v : Cursor) : (s.setRdP v).rstN = s.rstN := rfl
@[simp] theorem State.setRdP_sendIdx (v : Cursor) : (s.setRdP v).sendIdx = s.sendIdx := rfl
@[simp] theorem State.setRdP_pRspValid (v : Cursor) : (s.setRdP v).pRspValid = s.pRspValid := rfl
@[simp] theorem State.setRdP_pRsp (v : Cursor) : (s.setRdP v).pRsp = s.pRsp := rfl
@[simp] theorem State.setRdP_cValid (v : Cursor) : (s.setRdP v).cValid = s.cValid := rfl
@[simp] theorem State.setRdP_cData (v : Cursor) : (s.setRdP v).cData = s.cData := rfl
@[simp] theorem State.setRdP_cLast (v : Cursor) : (s.setRdP v).cLast = s.cLast := rfl
@[simp] theorem State.setRdP_dataPath (v : Cursor) : (s.setRdP v).dataPath = s.dataPath := rfl
@[simp] theorem State.setRdP_staleTick (v : Cursor) : (s.setRdP v).staleTick = s.staleTick := rfl
@[simp] theorem State.setRdP_choice (v : Cursor) : (s.setRdP v).choice = s.choice := rfl
@[simp] theorem State.setRdP_freeCount (v : Cursor) : (s.setRdP v).freeCount = s.freeCount := rfl
@[simp] theorem State.setRdP_batch (v : Cursor) : (s.setRdP v).batch = s.batch := rfl
@[simp] theorem State.setRdP_turns (v : Cursor) : (s.setRdP v).turns = s.turns := rfl
@[simp] theorem State.setRdP_out (v : Cursor) : (s.setRdP v).out = s.out := rfl

/-! syncCarrier -/
@[simp] theorem State.syncCarrier_params : (s.syncCarrier).params = s.params := rfl
@[simp] theorem State.syncCarrier_lastSense : (s.syncCarrier).lastSense = s.lastSense := rfl
@[simp] theorem State.syncCarrier_slots : (s.syncCarrier).slots = s.slots := rfl
@[simp] theorem State.syncCarrier_wr : (s.syncCarrier).wr = s.wr := rfl
@[simp] theorem State.syncCarrier_rd : (s.syncCarrier).rd = s.rd := rfl
@[simp] theorem State.syncCarrier_wrC : (s.syncCarrier).wrC = s.wrC := rfl
@[simp] theorem State.syncCarrier_rdP : (s.syncCarrier).rdP = s.rdP := rfl
@[simp] theorem State.syncCarrier_carrier : (s.syncCarrier).carrier = s.carrier := rfl
@[simp] theorem State.syncCarrier_carrierC : (s.syncCarrier).carrierC = s.carrier := rfl
@[simp] theorem State.syncCarrier_seqState : (s.syncCarrier).seqState = s.seqState := rfl
@[simp] theorem State.syncCarrier_hold : (s.syncCarrier).hold = s.hold := rfl
@[simp] theorem State.syncCarrier_wrGray : (s.syncCarrier).wrGray = s.wrGray := rfl
@[simp] theorem State.syncCarrier_rdGray : (s.syncCarrier).rdGray = s.rdGray := rfl
@[simp] theorem State.syncCarrier_wrGrayS1 : (s.syncCarrier).wrGrayS1 = s.wrGrayS1 := rfl
@[simp] theorem State.syncCarrier_rdGrayS1 : (s.syncCarrier).rdGrayS1 = s.rdGrayS1 := rfl
@[simp] theorem State.syncCarrier_carrierS1 : (s.syncCarrier).carrierS1 = s.carrier := rfl
@[simp] theorem State.syncCarrier_sidx : (s.syncCarrier).sidx = s.sidx := rfl
@[simp] theorem State.syncCarrier_src : (s.syncCarrier).src = s.src := rfl
@[simp] theorem State.syncCarrier_pol : (s.syncCarrier).pol = s.pol := rfl
@[simp] theorem State.syncCarrier_busy : (s.syncCarrier).busy = s.busy := rfl
@[simp] theorem State.syncCarrier_ready : (s.syncCarrier).ready = s.ready := rfl
@[simp] theorem State.syncCarrier_rstN : (s.syncCarrier).rstN = s.rstN := rfl
@[simp] theorem State.syncCarrier_sendIdx : (s.syncCarrier).sendIdx = s.sendIdx := rfl
@[simp] theorem State.syncCarrier_pRspValid : (s.syncCarrier).pRspValid = s.pRspValid := rfl
@[simp] theorem State.syncCarrier_pRsp : (s.syncCarrier).pRsp = s.pRsp := rfl
@[simp] theorem State.syncCarrier_cValid : (s.syncCarrier).cValid = s.cValid := rfl
@[simp] theorem State.syncCarrier_cData : (s.syncCarrier).cData = s.cData := rfl
@[simp] theorem State.syncCarrier_cLast : (s.syncCarrier).cLast = s.cLast := rfl
@[simp] theorem State.syncCarrier_dataPath : (s.syncCarrier).dataPath = s.dataPath := rfl
@[simp] theorem State.syncCarrier_staleTick : (s.syncCarrier).staleTick = false := rfl
@[simp] theorem State.syncCarrier_choice : (s.syncCarrier).choice = s.choice := rfl
@[simp] theorem State.syncCarrier_freeCount : (s.syncCarrier).freeCount = s.freeCount := rfl
@[simp] theorem State.syncCarrier_batch : (s.syncCarrier).batch = s.batch := rfl
@[simp] theorem State.syncCarrier_turns : (s.syncCarrier).turns = s.turns := rfl
@[simp] theorem State.syncCarrier_out : (s.syncCarrier).out = s.out := rfl

/-! noteCarrier -/
@[simp] theorem State.noteCarrier_params : (s.noteCarrier).params = s.params := rfl
@[simp] theorem State.noteCarrier_lastSense : (s.noteCarrier).lastSense = s.lastSense := rfl
@[simp] theorem State.noteCarrier_slots : (s.noteCarrier).slots = s.slots := rfl
@[simp] theorem State.noteCarrier_wr : (s.noteCarrier).wr = s.wr := rfl
@[simp] theorem State.noteCarrier_rd : (s.noteCarrier).rd = s.rd := rfl
@[simp] theorem State.noteCarrier_wrC : (s.noteCarrier).wrC = s.wrC := rfl
@[simp] theorem State.noteCarrier_rdP : (s.noteCarrier).rdP = s.rdP := rfl
@[simp] theorem State.noteCarrier_carrier : (s.noteCarrier).carrier = s.carrier := rfl
@[simp] theorem State.noteCarrier_carrierC : (s.noteCarrier).carrierC = s.carrierC := rfl
@[simp] theorem State.noteCarrier_seqState : (s.noteCarrier).seqState = s.seqState := rfl
@[simp] theorem State.noteCarrier_hold : (s.noteCarrier).hold = s.hold := rfl
@[simp] theorem State.noteCarrier_wrGray : (s.noteCarrier).wrGray = s.wrGray := rfl
@[simp] theorem State.noteCarrier_rdGray : (s.noteCarrier).rdGray = s.rdGray := rfl
@[simp] theorem State.noteCarrier_wrGrayS1 : (s.noteCarrier).wrGrayS1 = s.wrGrayS1 := rfl
@[simp] theorem State.noteCarrier_rdGrayS1 : (s.noteCarrier).rdGrayS1 = s.rdGrayS1 := rfl
@[simp] theorem State.noteCarrier_carrierS1 : (s.noteCarrier).carrierS1 = s.carrierS1 := rfl
@[simp] theorem State.noteCarrier_sidx : (s.noteCarrier).sidx = s.sidx := rfl
@[simp] theorem State.noteCarrier_src : (s.noteCarrier).src = s.src := rfl
@[simp] theorem State.noteCarrier_pol : (s.noteCarrier).pol = s.pol := rfl
@[simp] theorem State.noteCarrier_busy : (s.noteCarrier).busy = s.busy := rfl
@[simp] theorem State.noteCarrier_ready : (s.noteCarrier).ready = s.ready := rfl
@[simp] theorem State.noteCarrier_rstN : (s.noteCarrier).rstN = s.rstN := rfl
@[simp] theorem State.noteCarrier_sendIdx : (s.noteCarrier).sendIdx = s.sendIdx := rfl
@[simp] theorem State.noteCarrier_pRspValid : (s.noteCarrier).pRspValid = s.pRspValid := rfl
@[simp] theorem State.noteCarrier_pRsp : (s.noteCarrier).pRsp = s.pRsp := rfl
@[simp] theorem State.noteCarrier_cValid : (s.noteCarrier).cValid = s.cValid := rfl
@[simp] theorem State.noteCarrier_cData : (s.noteCarrier).cData = s.cData := rfl
@[simp] theorem State.noteCarrier_cLast : (s.noteCarrier).cLast = s.cLast := rfl
@[simp] theorem State.noteCarrier_dataPath : (s.noteCarrier).dataPath = s.dataPath := rfl
@[simp] theorem State.noteCarrier_staleTick : (s.noteCarrier).staleTick = (s.carrierC != s.carrier) := rfl
@[simp] theorem State.noteCarrier_choice : (s.noteCarrier).choice = s.choice := rfl
@[simp] theorem State.noteCarrier_freeCount : (s.noteCarrier).freeCount = s.freeCount := rfl
@[simp] theorem State.noteCarrier_batch : (s.noteCarrier).batch = s.batch := rfl
@[simp] theorem State.noteCarrier_turns : (s.noteCarrier).turns = s.turns := rfl
@[simp] theorem State.noteCarrier_out : (s.noteCarrier).out = s.out := rfl

/-! enqueue -/
@[simp] theorem State.enqueue_params (blk : Block) : (s.enqueue blk).params = s.params := rfl
@[simp] theorem State.enqueue_lastSense (blk : Block) : (s.enqueue blk).lastSense = s.lastSense := rfl
@[simp] theorem State.enqueue_slots (blk : Block) : (s.enqueue blk).slots = s.slots.set (slotIndex s.wr) blk := rfl
@[simp] theorem State.enqueue_wr (blk : Block) : (s.enqueue blk).wr = s.wr + 1#5 := rfl
@[simp] theorem State.enqueue_rd (blk : Block) : (s.enqueue blk).rd = s.rd := rfl
@[simp] theorem State.enqueue_wrC (blk : Block) : (s.enqueue blk).wrC = s.wrC := rfl
@[simp] theorem State.enqueue_rdP (blk : Block) : (s.enqueue blk).rdP = s.rdP := rfl
@[simp] theorem State.enqueue_carrier (blk : Block) : (s.enqueue blk).carrier = s.carrier := rfl
@[simp] theorem State.enqueue_carrierC (blk : Block) : (s.enqueue blk).carrierC = s.carrierC := rfl
@[simp] theorem State.enqueue_seqState (blk : Block) : (s.enqueue blk).seqState = s.seqState := rfl
@[simp] theorem State.enqueue_hold (blk : Block) : (s.enqueue blk).hold = s.hold := rfl
@[simp] theorem State.enqueue_wrGray (blk : Block) : (s.enqueue blk).wrGray = gray (s.wr + 1#5) := rfl
@[simp] theorem State.enqueue_rdGray (blk : Block) : (s.enqueue blk).rdGray = s.rdGray := rfl
@[simp] theorem State.enqueue_wrGrayS1 (blk : Block) : (s.enqueue blk).wrGrayS1 = s.wrGrayS1 := rfl
@[simp] theorem State.enqueue_rdGrayS1 (blk : Block) : (s.enqueue blk).rdGrayS1 = s.rdGrayS1 := rfl
@[simp] theorem State.enqueue_carrierS1 (blk : Block) : (s.enqueue blk).carrierS1 = s.carrierS1 := rfl
@[simp] theorem State.enqueue_sidx (blk : Block) : (s.enqueue blk).sidx = s.sidx := rfl
@[simp] theorem State.enqueue_src (blk : Block) : (s.enqueue blk).src = s.src := rfl
@[simp] theorem State.enqueue_pol (blk : Block) : (s.enqueue blk).pol = s.pol := rfl
@[simp] theorem State.enqueue_busy (blk : Block) : (s.enqueue blk).busy = s.busy := rfl
@[simp] theorem State.enqueue_ready (blk : Block) : (s.enqueue blk).ready = s.ready := rfl
@[simp] theorem State.enqueue_rstN (blk : Block) : (s.enqueue blk).rstN = s.rstN := rfl
@[simp] theorem State.enqueue_sendIdx (blk : Block) : (s.enqueue blk).sendIdx = s.sendIdx := rfl
@[simp] theorem State.enqueue_pRspValid (blk : Block) : (s.enqueue blk).pRspValid = s.pRspValid := rfl
@[simp] theorem State.enqueue_pRsp (blk : Block) : (s.enqueue blk).pRsp = s.pRsp := rfl
@[simp] theorem State.enqueue_cValid (blk : Block) : (s.enqueue blk).cValid = s.cValid := rfl
@[simp] theorem State.enqueue_cData (blk : Block) : (s.enqueue blk).cData = s.cData := rfl
@[simp] theorem State.enqueue_cLast (blk : Block) : (s.enqueue blk).cLast = s.cLast := rfl
@[simp] theorem State.enqueue_dataPath (blk : Block) : (s.enqueue blk).dataPath = s.dataPath := rfl
@[simp] theorem State.enqueue_staleTick (blk : Block) : (s.enqueue blk).staleTick = s.staleTick := rfl
@[simp] theorem State.enqueue_choice (blk : Block) : (s.enqueue blk).choice = s.choice := rfl
@[simp] theorem State.enqueue_freeCount (blk : Block) : (s.enqueue blk).freeCount = s.freeCount := rfl
@[simp] theorem State.enqueue_batch (blk : Block) : (s.enqueue blk).batch = s.batch := rfl
@[simp] theorem State.enqueue_turns (blk : Block) : (s.enqueue blk).turns = s.turns := rfl
@[simp] theorem State.enqueue_out (blk : Block) : (s.enqueue blk).out = s.out := rfl

/-! advance -/
@[simp] theorem State.advance_params : (s.advance).params = s.params := rfl
@[simp] theorem State.advance_lastSense : (s.advance).lastSense = s.lastSense := rfl
@[simp] theorem State.advance_slots : (s.advance).slots = s.slots := rfl
@[simp] theorem State.advance_wr : (s.advance).wr = s.wr := rfl
@[simp] theorem State.advance_rd : (s.advance).rd = s.rd + 1#5 := rfl
@[simp] theorem State.advance_wrC : (s.advance).wrC = s.wrC := rfl
@[simp] theorem State.advance_rdP : (s.advance).rdP = s.rdP := rfl
@[simp] theorem State.advance_carrier : (s.advance).carrier = s.carrier := rfl
@[simp] theorem State.advance_carrierC : (s.advance).carrierC = s.carrierC := rfl
@[simp] theorem State.advance_seqState : (s.advance).seqState = s.seqState := rfl
@[simp] theorem State.advance_hold : (s.advance).hold = s.hold := rfl
@[simp] theorem State.advance_wrGray : (s.advance).wrGray = s.wrGray := rfl
@[simp] theorem State.advance_rdGray : (s.advance).rdGray = gray (s.rd + 1#5) := rfl
@[simp] theorem State.advance_wrGrayS1 : (s.advance).wrGrayS1 = s.wrGrayS1 := rfl
@[simp] theorem State.advance_rdGrayS1 : (s.advance).rdGrayS1 = s.rdGrayS1 := rfl
@[simp] theorem State.advance_carrierS1 : (s.advance).carrierS1 = s.carrierS1 := rfl
@[simp] theorem State.advance_sidx : (s.advance).sidx = s.sidx := rfl
@[simp] theorem State.advance_src : (s.advance).src = s.src := rfl
@[simp] theorem State.advance_pol : (s.advance).pol = s.pol := rfl
@[simp] theorem State.advance_busy : (s.advance).busy = s.busy := rfl
@[simp] theorem State.advance_ready : (s.advance).ready = s.ready := rfl
@[simp] theorem State.advance_rstN : (s.advance).rstN = s.rstN := rfl
@[simp] theorem State.advance_sendIdx : (s.advance).sendIdx = s.sendIdx := rfl
@[simp] theorem State.advance_pRspValid : (s.advance).pRspValid = s.pRspValid := rfl
@[simp] theorem State.advance_pRsp : (s.advance).pRsp = s.pRsp := rfl
@[simp] theorem State.advance_cValid : (s.advance).cValid = s.cValid := rfl
@[simp] theorem State.advance_cData : (s.advance).cData = s.cData := rfl
@[simp] theorem State.advance_cLast : (s.advance).cLast = s.cLast := rfl
@[simp] theorem State.advance_dataPath : (s.advance).dataPath = s.dataPath := rfl
@[simp] theorem State.advance_staleTick : (s.advance).staleTick = s.staleTick := rfl
@[simp] theorem State.advance_choice : (s.advance).choice = s.choice := rfl
@[simp] theorem State.advance_freeCount : (s.advance).freeCount = s.freeCount := rfl
@[simp] theorem State.advance_batch : (s.advance).batch = s.batch := rfl
@[simp] theorem State.advance_turns : (s.advance).turns = s.turns := rfl
@[simp] theorem State.advance_out : (s.advance).out = s.out := rfl

/-! respond -/
@[simp] theorem State.respond_params (st : Status) : (s.respond st).params = s.params := rfl
@[simp] theorem State.respond_lastSense (st : Status) : (s.respond st).lastSense = s.lastSense := rfl
@[simp] theorem State.respond_slots (st : Status) : (s.respond st).slots = s.slots := rfl
@[simp] theorem State.respond_wr (st : Status) : (s.respond st).wr = s.wr := rfl
@[simp] theorem State.respond_rd (st : Status) : (s.respond st).rd = s.rd := rfl
@[simp] theorem State.respond_wrC (st : Status) : (s.respond st).wrC = s.wrC := rfl
@[simp] theorem State.respond_rdP (st : Status) : (s.respond st).rdP = s.rdP := rfl
@[simp] theorem State.respond_carrier (st : Status) : (s.respond st).carrier = s.carrier := rfl
@[simp] theorem State.respond_carrierC (st : Status) : (s.respond st).carrierC = s.carrierC := rfl
@[simp] theorem State.respond_seqState (st : Status) : (s.respond st).seqState = s.seqState := rfl
@[simp] theorem State.respond_hold (st : Status) : (s.respond st).hold = s.hold := rfl
@[simp] theorem State.respond_wrGray (st : Status) : (s.respond st).wrGray = s.wrGray := rfl
@[simp] theorem State.respond_rdGray (st : Status) : (s.respond st).rdGray = s.rdGray := rfl
@[simp] theorem State.respond_wrGrayS1 (st : Status) : (s.respond st).wrGrayS1 = s.wrGrayS1 := rfl
@[simp] theorem State.respond_rdGrayS1 (st : Status) : (s.respond st).rdGrayS1 = s.rdGrayS1 := rfl
@[simp] theorem State.respond_carrierS1 (st : Status) : (s.respond st).carrierS1 = s.carrierS1 := rfl
@[simp] theorem State.respond_sidx (st : Status) : (s.respond st).sidx = s.sidx := rfl
@[simp] theorem State.respond_src (st : Status) : (s.respond st).src = s.src := rfl
@[simp] theorem State.respond_pol (st : Status) : (s.respond st).pol = s.pol := rfl
@[simp] theorem State.respond_busy (st : Status) : (s.respond st).busy = s.busy := rfl
@[simp] theorem State.respond_ready (st : Status) : (s.respond st).ready = s.ready := rfl
@[simp] theorem State.respond_rstN (st : Status) : (s.respond st).rstN = s.rstN := rfl
@[simp] theorem State.respond_sendIdx (st : Status) : (s.respond st).sendIdx = s.sendIdx := rfl
@[simp] theorem State.respond_pRspValid (st : Status) : (s.respond st).pRspValid = s.pRspValid := rfl
@[simp] theorem State.respond_pRsp (st : Status) : (s.respond st).pRsp = s.pRsp := rfl
@[simp] theorem State.respond_cValid (st : Status) : (s.respond st).cValid = s.cValid := rfl
@[simp] theorem State.respond_cData (st : Status) : (s.respond st).cData = s.cData := rfl
@[simp] theorem State.respond_cLast (st : Status) : (s.respond st).cLast = s.cLast := rfl
@[simp] theorem State.respond_dataPath (st : Status) : (s.respond st).dataPath = s.dataPath := rfl
@[simp] theorem State.respond_staleTick (st : Status) : (s.respond st).staleTick = s.staleTick := rfl
@[simp] theorem State.respond_choice (st : Status) : (s.respond st).choice = s.choice := rfl
@[simp] theorem State.respond_freeCount (st : Status) : (s.respond st).freeCount = s.freeCount := rfl
@[simp] theorem State.respond_batch (st : Status) : (s.respond st).batch = s.batch := rfl
@[simp] theorem State.respond_turns (st : Status) : (s.respond st).turns = s.turns := rfl
@[simp] theorem State.respond_out (st : Status) : (s.respond st).out = .response (responseWord st s.drainedP s.fullP) := rfl

/-! raisePort -/
@[simp] theorem State.raisePort_params (st : Status) : (s.raisePort st).params = s.params := rfl
@[simp] theorem State.raisePort_lastSense (st : Status) : (s.raisePort st).lastSense = s.lastSense := rfl
@[simp] theorem State.raisePort_slots (st : Status) : (s.raisePort st).slots = s.slots := rfl
@[simp] theorem State.raisePort_wr (st : Status) : (s.raisePort st).wr = s.wr := rfl
@[simp] theorem State.raisePort_rd (st : Status) : (s.raisePort st).rd = s.rd := rfl
@[simp] theorem State.raisePort_wrC (st : Status) : (s.raisePort st).wrC = s.wrC := rfl
@[simp] theorem State.raisePort_rdP (st : Status) : (s.raisePort st).rdP = s.rdP := rfl
@[simp] theorem State.raisePort_carrier (st : Status) : (s.raisePort st).carrier = s.carrier := rfl
@[simp] theorem State.raisePort_carrierC (st : Status) : (s.raisePort st).carrierC = s.carrierC := rfl
@[simp] theorem State.raisePort_seqState (st : Status) : (s.raisePort st).seqState = s.seqState := rfl
@[simp] theorem State.raisePort_hold (st : Status) : (s.raisePort st).hold = s.hold := rfl
@[simp] theorem State.raisePort_wrGray (st : Status) : (s.raisePort st).wrGray = s.wrGray := rfl
@[simp] theorem State.raisePort_rdGray (st : Status) : (s.raisePort st).rdGray = s.rdGray := rfl
@[simp] theorem State.raisePort_wrGrayS1 (st : Status) : (s.raisePort st).wrGrayS1 = s.wrGrayS1 := rfl
@[simp] theorem State.raisePort_rdGrayS1 (st : Status) : (s.raisePort st).rdGrayS1 = s.rdGrayS1 := rfl
@[simp] theorem State.raisePort_carrierS1 (st : Status) : (s.raisePort st).carrierS1 = s.carrierS1 := rfl
@[simp] theorem State.raisePort_sidx (st : Status) : (s.raisePort st).sidx = s.sidx := rfl
@[simp] theorem State.raisePort_src (st : Status) : (s.raisePort st).src = s.src := rfl
@[simp] theorem State.raisePort_pol (st : Status) : (s.raisePort st).pol = s.pol := rfl
@[simp] theorem State.raisePort_busy (st : Status) : (s.raisePort st).busy = s.busy := rfl
@[simp] theorem State.raisePort_ready (st : Status) : (s.raisePort st).ready = s.ready := rfl
@[simp] theorem State.raisePort_rstN (st : Status) : (s.raisePort st).rstN = s.rstN := rfl
@[simp] theorem State.raisePort_sendIdx (st : Status) : (s.raisePort st).sendIdx = s.sendIdx := rfl
@[simp] theorem State.raisePort_pRspValid (st : Status) : (s.raisePort st).pRspValid = s.pRspValid := rfl
@[simp] theorem State.raisePort_pRsp (st : Status) : (s.raisePort st).pRsp = s.pRsp := rfl
@[simp] theorem State.raisePort_cValid (st : Status) : (s.raisePort st).cValid = s.cValid := rfl
@[simp] theorem State.raisePort_cData (st : Status) : (s.raisePort st).cData = s.cData := rfl
@[simp] theorem State.raisePort_cLast (st : Status) : (s.raisePort st).cLast = s.cLast := rfl
@[simp] theorem State.raisePort_dataPath (st : Status) : (s.raisePort st).dataPath = s.dataPath := rfl
@[simp] theorem State.raisePort_staleTick (st : Status) : (s.raisePort st).staleTick = s.staleTick := rfl
@[simp] theorem State.raisePort_choice (st : Status) : (s.raisePort st).choice = s.choice := rfl
@[simp] theorem State.raisePort_freeCount (st : Status) : (s.raisePort st).freeCount = s.freeCount := rfl
@[simp] theorem State.raisePort_batch (st : Status) : (s.raisePort st).batch = s.batch := rfl
@[simp] theorem State.raisePort_turns (st : Status) : (s.raisePort st).turns = s.turns := rfl
@[simp] theorem State.raisePort_out (st : Status) : (s.raisePort st).out = .response (responseWord st s.drainedP s.fullP) := rfl

/-! raiseInner -/
@[simp] theorem State.raiseInner_params (st : Status) : (s.raiseInner st).params = s.params := rfl
@[simp] theorem State.raiseInner_lastSense (st : Status) : (s.raiseInner st).lastSense = s.lastSense := rfl
@[simp] theorem State.raiseInner_slots (st : Status) : (s.raiseInner st).slots = s.slots := rfl
@[simp] theorem State.raiseInner_wr (st : Status) : (s.raiseInner st).wr = s.wr := rfl
@[simp] theorem State.raiseInner_rd (st : Status) : (s.raiseInner st).rd = s.rd := rfl
@[simp] theorem State.raiseInner_wrC (st : Status) : (s.raiseInner st).wrC = s.wrC := rfl
@[simp] theorem State.raiseInner_rdP (st : Status) : (s.raiseInner st).rdP = s.rdP := rfl
@[simp] theorem State.raiseInner_carrier (st : Status) : (s.raiseInner st).carrier = s.carrier := rfl
@[simp] theorem State.raiseInner_carrierC (st : Status) : (s.raiseInner st).carrierC = s.carrierC := rfl
@[simp] theorem State.raiseInner_seqState (st : Status) : (s.raiseInner st).seqState = s.seqState := rfl
@[simp] theorem State.raiseInner_hold (st : Status) : (s.raiseInner st).hold = s.hold := rfl
@[simp] theorem State.raiseInner_wrGray (st : Status) : (s.raiseInner st).wrGray = s.wrGray := rfl
@[simp] theorem State.raiseInner_rdGray (st : Status) : (s.raiseInner st).rdGray = s.rdGray := rfl
@[simp] theorem State.raiseInner_wrGrayS1 (st : Status) : (s.raiseInner st).wrGrayS1 = s.wrGrayS1 := rfl
@[simp] theorem State.raiseInner_rdGrayS1 (st : Status) : (s.raiseInner st).rdGrayS1 = s.rdGrayS1 := rfl
@[simp] theorem State.raiseInner_carrierS1 (st : Status) : (s.raiseInner st).carrierS1 = s.carrierS1 := rfl
@[simp] theorem State.raiseInner_sidx (st : Status) : (s.raiseInner st).sidx = s.sidx := rfl
@[simp] theorem State.raiseInner_src (st : Status) : (s.raiseInner st).src = s.src := rfl
@[simp] theorem State.raiseInner_pol (st : Status) : (s.raiseInner st).pol = s.pol := rfl
@[simp] theorem State.raiseInner_busy (st : Status) : (s.raiseInner st).busy = s.busy := rfl
@[simp] theorem State.raiseInner_ready (st : Status) : (s.raiseInner st).ready = s.ready := rfl
@[simp] theorem State.raiseInner_rstN (st : Status) : (s.raiseInner st).rstN = s.rstN := rfl
@[simp] theorem State.raiseInner_sendIdx (st : Status) : (s.raiseInner st).sendIdx = s.sendIdx := rfl
@[simp] theorem State.raiseInner_pRspValid (st : Status) : (s.raiseInner st).pRspValid = s.pRspValid := rfl
@[simp] theorem State.raiseInner_pRsp (st : Status) : (s.raiseInner st).pRsp = s.pRsp := rfl
@[simp] theorem State.raiseInner_cValid (st : Status) : (s.raiseInner st).cValid = s.cValid := rfl
@[simp] theorem State.raiseInner_cData (st : Status) : (s.raiseInner st).cData = s.cData := rfl
@[simp] theorem State.raiseInner_cLast (st : Status) : (s.raiseInner st).cLast = s.cLast := rfl
@[simp] theorem State.raiseInner_dataPath (st : Status) : (s.raiseInner st).dataPath = s.dataPath := rfl
@[simp] theorem State.raiseInner_staleTick (st : Status) : (s.raiseInner st).staleTick = s.staleTick := rfl
@[simp] theorem State.raiseInner_choice (st : Status) : (s.raiseInner st).choice = s.choice := rfl
@[simp] theorem State.raiseInner_freeCount (st : Status) : (s.raiseInner st).freeCount = s.freeCount := rfl
@[simp] theorem State.raiseInner_batch (st : Status) : (s.raiseInner st).batch = s.batch := rfl
@[simp] theorem State.raiseInner_turns (st : Status) : (s.raiseInner st).turns = s.turns := rfl
@[simp] theorem State.raiseInner_out (st : Status) : (s.raiseInner st).out = .status st := rfl

/-! fetch: only `lastSense` moves -/
@[simp] theorem State.fetch_params (sym : Symbol) : (s.fetch sym).2.params = s.params := rfl
@[simp] theorem State.fetch_lastSense (sym : Symbol) : (s.fetch sym).2.lastSense = phaseAfter s.lastSense (s.cacheRead sym).cont := rfl
@[simp] theorem State.fetch_slots (sym : Symbol) : (s.fetch sym).2.slots = s.slots := rfl
@[simp] theorem State.fetch_wr (sym : Symbol) : (s.fetch sym).2.wr = s.wr := rfl
@[simp] theorem State.fetch_rd (sym : Symbol) : (s.fetch sym).2.rd = s.rd := rfl
@[simp] theorem State.fetch_wrC (sym : Symbol) : (s.fetch sym).2.wrC = s.wrC := rfl
@[simp] theorem State.fetch_rdP (sym : Symbol) : (s.fetch sym).2.rdP = s.rdP := rfl
@[simp] theorem State.fetch_carrier (sym : Symbol) : (s.fetch sym).2.carrier = s.carrier := rfl
@[simp] theorem State.fetch_carrierC (sym : Symbol) : (s.fetch sym).2.carrierC = s.carrierC := rfl
@[simp] theorem State.fetch_seqState (sym : Symbol) : (s.fetch sym).2.seqState = s.seqState := rfl
@[simp] theorem State.fetch_hold (sym : Symbol) : (s.fetch sym).2.hold = s.hold := rfl
@[simp] theorem State.fetch_wrGray (sym : Symbol) : (s.fetch sym).2.wrGray = s.wrGray := rfl
@[simp] theorem State.fetch_rdGray (sym : Symbol) : (s.fetch sym).2.rdGray = s.rdGray := rfl
@[simp] theorem State.fetch_wrGrayS1 (sym : Symbol) : (s.fetch sym).2.wrGrayS1 = s.wrGrayS1 := rfl
@[simp] theorem State.fetch_rdGrayS1 (sym : Symbol) : (s.fetch sym).2.rdGrayS1 = s.rdGrayS1 := rfl
@[simp] theorem State.fetch_carrierS1 (sym : Symbol) : (s.fetch sym).2.carrierS1 = s.carrierS1 := rfl
@[simp] theorem State.fetch_sidx (sym : Symbol) : (s.fetch sym).2.sidx = s.sidx := rfl
@[simp] theorem State.fetch_src (sym : Symbol) : (s.fetch sym).2.src = s.src := rfl
@[simp] theorem State.fetch_pol (sym : Symbol) : (s.fetch sym).2.pol = s.pol := rfl
@[simp] theorem State.fetch_busy (sym : Symbol) : (s.fetch sym).2.busy = s.busy := rfl
@[simp] theorem State.fetch_ready (sym : Symbol) : (s.fetch sym).2.ready = s.ready := rfl
@[simp] theorem State.fetch_rstN (sym : Symbol) : (s.fetch sym).2.rstN = s.rstN := rfl
@[simp] theorem State.fetch_sendIdx (sym : Symbol) : (s.fetch sym).2.sendIdx = s.sendIdx := rfl
@[simp] theorem State.fetch_pRspValid (sym : Symbol) : (s.fetch sym).2.pRspValid = s.pRspValid := rfl
@[simp] theorem State.fetch_pRsp (sym : Symbol) : (s.fetch sym).2.pRsp = s.pRsp := rfl
@[simp] theorem State.fetch_cValid (sym : Symbol) : (s.fetch sym).2.cValid = s.cValid := rfl
@[simp] theorem State.fetch_cData (sym : Symbol) : (s.fetch sym).2.cData = s.cData := rfl
@[simp] theorem State.fetch_cLast (sym : Symbol) : (s.fetch sym).2.cLast = s.cLast := rfl
@[simp] theorem State.fetch_dataPath (sym : Symbol) : (s.fetch sym).2.dataPath = s.dataPath := rfl
@[simp] theorem State.fetch_staleTick (sym : Symbol) : (s.fetch sym).2.staleTick = s.staleTick := rfl
@[simp] theorem State.fetch_choice (sym : Symbol) : (s.fetch sym).2.choice = s.choice := rfl
@[simp] theorem State.fetch_freeCount (sym : Symbol) : (s.fetch sym).2.freeCount = s.freeCount := rfl
@[simp] theorem State.fetch_batch (sym : Symbol) : (s.fetch sym).2.batch = s.batch := rfl
@[simp] theorem State.fetch_turns (sym : Symbol) : (s.fetch sym).2.turns = s.turns := rfl
@[simp] theorem State.fetch_out (sym : Symbol) : (s.fetch sym).2.out = s.out := rfl
@[simp] theorem State.fetch_block (sym : Symbol) : (s.fetch sym).1 = variantOf (s.cacheRead sym) s.lastSense := rfl

end

end Sys2Proof.Machine
end

