-- ==== Sys2Proof/Laws/Views.lean ====
section
/-! SUPPORT. The predicates and reads that no other module should unfold an update for: what each update leaves of `drained_p`, `full_p`,
`empty_c`, the occupancy, a slot read and a cache read. Each true by rfl. -/

namespace Sys2Proof.Machine

section

variable (s : State)

/-! answer -/
@[simp] theorem State.answer_drainedP (o : Output) : (s.answer o).drainedP = s.drainedP := rfl
@[simp] theorem State.answer_fullP (o : Output) : (s.answer o).fullP = s.fullP := rfl
@[simp] theorem State.answer_emptyC (o : Output) : (s.answer o).emptyC = s.emptyC := rfl
@[simp] theorem State.answer_occupancy (o : Output) : (s.answer o).occupancy = s.occupancy := rfl
@[simp] theorem State.answer_slotRead (o : Output) (c : Cursor) : (s.answer o).slotRead c = s.slotRead c := rfl
@[simp] theorem State.answer_cacheRead (o : Output) (y : Symbol) : (s.answer o).cacheRead y = s.cacheRead y := rfl

/-! withTurns -/
@[simp] theorem State.withTurns_drainedP (l : List Turn) : (s.withTurns l).drainedP = s.drainedP := rfl
@[simp] theorem State.withTurns_fullP (l : List Turn) : (s.withTurns l).fullP = s.fullP := rfl
@[simp] theorem State.withTurns_emptyC (l : List Turn) : (s.withTurns l).emptyC = s.emptyC := rfl
@[simp] theorem State.withTurns_occupancy (l : List Turn) : (s.withTurns l).occupancy = s.occupancy := rfl
@[simp] theorem State.withTurns_slotRead (l : List Turn) (c : Cursor) : (s.withTurns l).slotRead c = s.slotRead c := rfl
@[simp] theorem State.withTurns_cacheRead (l : List Turn) (y : Symbol) : (s.withTurns l).cacheRead y = s.cacheRead y := rfl

/-! withChoice -/
@[simp] theorem State.withChoice_drainedP (n : Nat) : (s.withChoice n).drainedP = s.drainedP := rfl
@[simp] theorem State.withChoice_fullP (n : Nat) : (s.withChoice n).fullP = s.fullP := rfl
@[simp] theorem State.withChoice_emptyC (n : Nat) : (s.withChoice n).emptyC = s.emptyC := rfl
@[simp] theorem State.withChoice_occupancy (n : Nat) : (s.withChoice n).occupancy = s.occupancy := rfl
@[simp] theorem State.withChoice_slotRead (n : Nat) (c : Cursor) : (s.withChoice n).slotRead c = s.slotRead c := rfl
@[simp] theorem State.withChoice_cacheRead (n : Nat) (y : Symbol) : (s.withChoice n).cacheRead y = s.cacheRead y := rfl

/-! respond -/
@[simp] theorem State.respond_drainedP (st : Status) : (s.respond st).drainedP = s.drainedP := rfl
@[simp] theorem State.respond_fullP (st : Status) : (s.respond st).fullP = s.fullP := rfl
@[simp] theorem State.respond_emptyC (st : Status) : (s.respond st).emptyC = s.emptyC := rfl
@[simp] theorem State.respond_occupancy (st : Status) : (s.respond st).occupancy = s.occupancy := rfl
@[simp] theorem State.respond_slotRead (st : Status) (c : Cursor) : (s.respond st).slotRead c = s.slotRead c := rfl
@[simp] theorem State.respond_cacheRead (st : Status) (y : Symbol) : (s.respond st).cacheRead y = s.cacheRead y := rfl

/-! raisePort -/
@[simp] theorem State.raisePort_drainedP (st : Status) : (s.raisePort st).drainedP = s.drainedP := rfl
@[simp] theorem State.raisePort_fullP (st : Status) : (s.raisePort st).fullP = s.fullP := rfl
@[simp] theorem State.raisePort_emptyC (st : Status) : (s.raisePort st).emptyC = s.emptyC := rfl
@[simp] theorem State.raisePort_occupancy (st : Status) : (s.raisePort st).occupancy = s.occupancy := rfl
@[simp] theorem State.raisePort_slotRead (st : Status) (c : Cursor) : (s.raisePort st).slotRead c = s.slotRead c := rfl
@[simp] theorem State.raisePort_cacheRead (st : Status) (y : Symbol) : (s.raisePort st).cacheRead y = s.cacheRead y := rfl

/-! raiseInner -/
@[simp] theorem State.raiseInner_drainedP (st : Status) : (s.raiseInner st).drainedP = s.drainedP := rfl
@[simp] theorem State.raiseInner_fullP (st : Status) : (s.raiseInner st).fullP = s.fullP := rfl
@[simp] theorem State.raiseInner_emptyC (st : Status) : (s.raiseInner st).emptyC = s.emptyC := rfl
@[simp] theorem State.raiseInner_occupancy (st : Status) : (s.raiseInner st).occupancy = s.occupancy := rfl
@[simp] theorem State.raiseInner_slotRead (st : Status) (c : Cursor) : (s.raiseInner st).slotRead c = s.slotRead c := rfl
@[simp] theorem State.raiseInner_cacheRead (st : Status) (y : Symbol) : (s.raiseInner st).cacheRead y = s.cacheRead y := rfl

/-! setCarrier -/
@[simp] theorem State.setCarrier_drainedP (v : Bool) : (s.setCarrier v).drainedP = s.drainedP := rfl
@[simp] theorem State.setCarrier_fullP (v : Bool) : (s.setCarrier v).fullP = s.fullP := rfl
@[simp] theorem State.setCarrier_emptyC (v : Bool) : (s.setCarrier v).emptyC = s.emptyC := rfl
@[simp] theorem State.setCarrier_occupancy (v : Bool) : (s.setCarrier v).occupancy = s.occupancy := rfl
@[simp] theorem State.setCarrier_slotRead (v : Bool) (c : Cursor) : (s.setCarrier v).slotRead c = s.slotRead c := rfl
@[simp] theorem State.setCarrier_cacheRead (v : Bool) (y : Symbol) : (s.setCarrier v).cacheRead y = s.cacheRead y := rfl

/-! syncCarrier -/
@[simp] theorem State.syncCarrier_drainedP : (s.syncCarrier).drainedP = s.drainedP := rfl
@[simp] theorem State.syncCarrier_fullP : (s.syncCarrier).fullP = s.fullP := rfl
@[simp] theorem State.syncCarrier_emptyC : (s.syncCarrier).emptyC = s.emptyC := rfl
@[simp] theorem State.syncCarrier_occupancy : (s.syncCarrier).occupancy = s.occupancy := rfl
@[simp] theorem State.syncCarrier_slotRead (c : Cursor) : (s.syncCarrier).slotRead c = s.slotRead c := rfl
@[simp] theorem State.syncCarrier_cacheRead (y : Symbol) : (s.syncCarrier).cacheRead y = s.cacheRead y := rfl

/-! noteCarrier -/
@[simp] theorem State.noteCarrier_drainedP : (s.noteCarrier).drainedP = s.drainedP := rfl
@[simp] theorem State.noteCarrier_fullP : (s.noteCarrier).fullP = s.fullP := rfl
@[simp] theorem State.noteCarrier_emptyC : (s.noteCarrier).emptyC = s.emptyC := rfl
@[simp] theorem State.noteCarrier_occupancy : (s.noteCarrier).occupancy = s.occupancy := rfl
@[simp] theorem State.noteCarrier_slotRead (c : Cursor) : (s.noteCarrier).slotRead c = s.slotRead c := rfl
@[simp] theorem State.noteCarrier_cacheRead (y : Symbol) : (s.noteCarrier).cacheRead y = s.cacheRead y := rfl

@[simp] theorem State.fetch_drainedP (sym : Symbol) : (s.fetch sym).2.drainedP = s.drainedP := rfl
@[simp] theorem State.fetch_fullP (sym : Symbol) : (s.fetch sym).2.fullP = s.fullP := rfl
@[simp] theorem State.fetch_emptyC (sym : Symbol) : (s.fetch sym).2.emptyC = s.emptyC := rfl
@[simp] theorem State.fetch_occupancy (sym : Symbol) : (s.fetch sym).2.occupancy = s.occupancy := rfl
@[simp] theorem State.fetch_slotRead (sym : Symbol) (c : Cursor) : (s.fetch sym).2.slotRead c = s.slotRead c := rfl
@[simp] theorem State.fetch_cacheRead (sym y : Symbol) : (s.fetch sym).2.cacheRead y = s.cacheRead y := rfl

end

end Sys2Proof.Machine
end

