-- ==== Sys2Proof/Laws/Ops.lean ====
section
/-! SUPPORT. What each shared operation can do, said once: gray code, slots, views, queue and port operations. -/

namespace Sys2Proof.Machine

/-! Gray code -/

@[simp] theorem ungray_gray (b : Cursor) : ungray (gray b) = b := by revert b; decide
@[simp] theorem gray_ungray (g : Cursor) : gray (ungray g) = g := by revert g; decide

theorem gray_inj {a b : Cursor} : gray a = gray b ↔ a = b :=
  ⟨fun h => by rw [← ungray_gray a, h, ungray_gray], fun h => by rw [h]⟩

/-! Slots: read after write, and every other slot left alone -/

theorem slotRead_def (s : State) (c : Cursor) : s.slotRead c = s.slots[slotIndex c] := rfl

@[simp] theorem slotRead_slotWrite_self (s : State) (c : Cursor) (blk : Block) :
    (s.slotWrite c blk).slotRead c = blk := by
  simp [slotRead_def]

theorem slotRead_slotWrite (s : State) (c d : Cursor) (blk : Block) :
    (s.slotWrite c blk).slotRead d = if slotIndex c = slotIndex d then blk else s.slotRead d := by
  simp only [slotRead_def, State.slotWrite_slots, Fin.getElem_fin, Vector.getElem_set, Fin.ext_iff]

theorem slotRead_congr {s t : State} (h : t.slots = s.slots) (c : Cursor) : t.slotRead c = s.slotRead c := by
  rw [slotRead_def, slotRead_def, h]

theorem slotIndex_eq_iff (c d : Cursor) : slotIndex c = slotIndex d ↔ c.toNat % 16 = d.toNat % 16 := by
  simp [slotIndex]

/-- An ENQ's slot holds the block; every other slot is as before. -/
theorem slotRead_enqueue (s : State) (blk : Block) (d : Cursor) :
    (s.enqueue blk).slotRead d = if slotIndex s.wr = slotIndex d then blk else s.slotRead d :=
  slotRead_slotWrite s s.wr d blk

/-! Views -/

theorem viewAdvance_zero (n : Nat) : viewAdvance 0#5 n = 0#5 := rfl

/-- A view that lags moves by at least one and at most its lag. -/
theorem viewAdvance_bounds {lag : Cursor} (h : lag ≠ 0#5) (n : Nat) :
    0 < (viewAdvance lag n).toNat ∧ (viewAdvance lag n).toNat ≤ lag.toNat := by
  have hpos : 0 < lag.toNat := by
    rcases Nat.eq_zero_or_pos lag.toNat with h0 | h0
    · exact absurd (BitVec.eq_of_toNat_eq (by simpa using h0)) h
    · exact h0
  have hmod : n % lag.toNat < lag.toNat := Nat.mod_lt n hpos
  have hlt : lag.toNat < 32 := lag.isLt
  simp only [viewAdvance, if_neg h, BitVec.toNat_ofNat]
  omega

/-- Every amount up to the lag is reached by some choice. -/
theorem viewAdvance_reaches {lag d : Cursor} (h0 : 0 < d.toNat) (h1 : d.toNat ≤ lag.toNat) :
    viewAdvance lag (d.toNat - 1) = d := by
  have hlag : lag ≠ 0#5 := by rintro rfl; simp at h1; omega
  have hlt : lag.toNat < 32 := lag.isLt
  apply BitVec.eq_of_toNat_eq
  simp only [viewAdvance, if_neg hlag, BitVec.toNat_ofNat]
  rw [Nat.mod_eq_of_lt (by omega : d.toNat - 1 < lag.toNat)]
  omega

/-! Ports -/

theorem portOpen_next {s k t : State} : s.portOpen k = .next t ↔ s.hold = none ∧ k = t := by
  unfold State.portOpen
  cases s.hold <;> simp

@[simp] theorem portOpen_of_none {s k : State} (h : s.hold = none) : s.portOpen k = .next k := by
  simp [State.portOpen, h]

/-- This hardware rejects an enqueue on a full queue (R6, D6). -/
@[simp] theorem overflow_rejects (s rejected : State) : s.overflow rejected = rejected := rfl

@[simp] theorem andThen_next (t : State) (f) : andThen (.next t) f = f t := rfl

theorem andThen_eq_next {o : Host.Outcome State Fault Refusal} {f} {t : State} :
    andThen o f = .next t ↔ ∃ m, o = .next m ∧ f m = .next t := by
  cases o <;> simp [andThen]

/-! Operands and flags -/

theorem byteOf_byte (b : Byte) : byteOf (b.setWidth 9) = some b := by revert b; decide

theorem byteOf_none {arg : SymCode} (h : arg[8] = true) : byteOf arg = none := by simp [byteOf, h]

theorem byteOf_some {arg : SymCode} (h : arg[8] = false) : byteOf arg = some (arg.setWidth 8) := by simp [byteOf, h]

/-- The three fields of a response word (R60). -/
theorem responseWord_fields (st : Status) (d f : Bool) :
    (responseWord st d f).extractLsb' 0 3 = st.code ∧ (responseWord st d f)[3] = d ∧ (responseWord st d f)[4] = f := by
  cases st <;> cases d <;> cases f <;> decide

theorem symbolOf_code (y : Symbol) : symbolOf (symbolCode y) = some y := by
  cases y with
  | byte b => revert b; decide +kernel
  | silence => decide
  | idle => decide

@[simp] theorem phaseAfter_false (sense : Bool) : phaseAfter sense false = sense := by cases sense <;> rfl
@[simp] theorem phaseAfter_true (sense : Bool) : phaseAfter sense true = !sense := by cases sense <;> rfl

@[simp] theorem ofList_toList (l : List Sample) (h : l.length = 120) : (blockOfList l h).toList = l := rfl

/-- Sample `k` of a negated block is the negation of sample `k`. -/
@[simp] theorem neg_getElem (blk : Block) (k : Nat) (h : k < 120) : (negBlock blk)[k] = -blk[k] := by
  simp [negBlock, blockOfList, negList]

/-- Step 1 of SEND: refused, nothing changes; accepted, the byte is fetched into `hold`. -/
theorem sendStep1_cases (s : State) (full : Bool) (arg : SymCode) :
    (byteOf arg = none ∧ s.sendStep1 full arg = (.badSym, s)) ∨
    (∃ b, byteOf arg = some b ∧ full = true ∧ s.sendStep1 full arg = (.full, s)) ∨
    (∃ b, byteOf arg = some b ∧ full = false ∧
      s.sendStep1 full arg = (.ok, { (s.fetch (.byte b)).2 with hold := some (s.fetch (.byte b)).1 })) := by
  unfold State.sendStep1
  cases hb : byteOf arg with
  | none => exact .inl ⟨rfl, rfl⟩
  | some b =>
    cases full
    · exact .inr (.inr ⟨b, rfl, rfl, rfl⟩)
    · exact .inr (.inl ⟨b, rfl, rfl, rfl⟩)

/-- What a tick emits and leaves, by the decision table of R116. -/
theorem emitBlock_cases (s : State) :
    (s.emptyC = false ∧ s.emitBlock = (s.slotRead s.rd, { s.advance with seqState := .draining })) ∨
    (s.emptyC = true ∧ s.carrierC = true ∧
      s.emitBlock = ((s.fetch .idle).1, { (s.fetch .idle).2 with seqState := .carrierIdle })) ∨
    (s.emptyC = true ∧ s.carrierC = false ∧
      s.emitBlock = ((s.fetch .silence).1, { (s.fetch .silence).2 with seqState := .silent })) := by
  unfold State.emitBlock State.outputState
  cases s.emptyC <;> cases s.carrierC <;> simp [chooseState]

end Sys2Proof.Machine
end

