-- ==== Sys2Proof/Laws/Cursors.lean ====
section
/-! SUPPORT. Arithmetic of cursors modulo 32 and the chain of cursors, first stages and views (spec/10_state.md R27): what each move of a
cursor or view does to it. -/

namespace Sys2Proof.Machine

theorem cursor_sub_trans {x y z : Cursor} (h : (y - x).toNat + (z - y).toNat < 32) :
    (z - x).toNat = (y - x).toNat + (z - y).toNat := by bv_omega

theorem cursor_sub_self (x : Cursor) : (x - x).toNat = 0 := by simp

theorem cursor_succ_sub {x y : Cursor} (h : (y - x).toNat < 31) : (y + 1#5 - x).toNat = (y - x).toNat + 1 := by bv_omega

theorem cursor_sub_succ {x y : Cursor} (h : y ≠ x) : (y - (x + 1#5)).toNat + 1 = (y - x).toNat := by bv_omega

theorem cursor_sub_zero {x y : Cursor} : (y - x).toNat = 0 ↔ y = x := by
  constructor
  · intro h; bv_omega
  · rintro rfl; simp

/-- A view that moves by no more than its lag comes that much nearer. -/
theorem cursor_move {x y d : Cursor} (h : d.toNat ≤ (y - x).toNat) :
    (x + d - x).toNat = d.toNat ∧ (y - (x + d)).toNat + d.toNat = (y - x).toNat := by
  constructor <;> bv_omega

/-- Six cursors in order, spanning at most 16: `rd_p`, its first stage, `rd`, `wr_c`, its first stage, `wr`. -/
structure Chain (a b c d e f : Cursor) : Prop where
  le : (b - a).toNat + (c - b).toNat + (d - c).toNat + (e - d).toNat + (f - e).toNat ≤ 16

theorem State.chainOk_iff (s : State) :
    s.chainOk ↔ Chain s.rdP (ungray s.rdGrayS1) s.rd s.wrC (ungray s.wrGrayS1) s.wr := ⟨fun h => ⟨h⟩, fun h => h.le⟩

section

variable {a b c d e f : Cursor}

theorem Chain.total (h : Chain a b c d e f) :
    (f - a).toNat = (b - a).toNat + (c - b).toNat + (d - c).toNat + (e - d).toNat + (f - e).toNat := by
  have := h.le
  have h1 : (c - a).toNat = _ := cursor_sub_trans (y := b) (by omega)
  have h2 : (d - a).toNat = _ := cursor_sub_trans (y := c) (by omega)
  have h3 : (e - a).toNat = _ := cursor_sub_trans (y := d) (by omega)
  have h4 : (f - a).toNat = _ := cursor_sub_trans (y := e) (by omega)
  omega

theorem Chain.rdLag (h : Chain a b c d e f) : (c - a).toNat = (b - a).toNat + (c - b).toNat := by
  have := h.le
  exact cursor_sub_trans (by omega)

theorem Chain.wrLag (h : Chain a b c d e f) : (f - d).toNat = (e - d).toNat + (f - e).toNat := by
  have := h.le
  exact cursor_sub_trans (by omega)

/-- The blocks between `rd` and `wr`. -/
theorem Chain.occupied (h : Chain a b c d e f) : (f - c).toNat = (d - c).toNat + (e - d).toNat + (f - e).toNat := by
  have := h.le
  have h3 : (e - c).toNat = _ := cursor_sub_trans (y := d) (by omega)
  have h4 : (f - c).toNat = _ := cursor_sub_trans (y := e) (by omega)
  omega

/-- `wr` moves on: the queue, as P sees it, was not full. -/
theorem Chain.push (h : Chain a b c d e f) (hf : f - a ≠ 16#5) : Chain a b c d e (f + 1#5) := by
  have h1 := h.le
  have h2 := h.total
  have h3 : (f - a).toNat ≠ 16 := fun hh => hf (BitVec.eq_of_toNat_eq hh)
  have h4 := cursor_succ_sub (x := e) (y := f) (by omega)
  exact ⟨by omega⟩

/-- `rd` moves on: the queue, as C sees it, was not empty. -/
theorem Chain.pop (h : Chain a b c d e f) (hd : d ≠ c) : Chain a b (c + 1#5) d e f := by
  have h1 := h.le
  have h2 := cursor_sub_succ hd
  have h3 := cursor_succ_sub (x := b) (y := c) (by omega)
  exact ⟨by omega⟩

/-- `wr_c` moves up and its first stage takes `wr`. -/
theorem Chain.seeWr (h : Chain a b c d e f) {m : Cursor} (hm : m.toNat ≤ (f - d).toNat) :
    Chain a b c (d + m) f f ∧ (d ≠ c → d + m ≠ c) := by
  have h1 := h.le
  have h2 := h.wrLag
  obtain ⟨h3, h4⟩ := cursor_move hm
  have h5 : (d + m - c).toNat = _ := cursor_sub_trans (y := d) (by omega)
  have h6 := cursor_sub_self f
  refine ⟨⟨by omega⟩, fun hd hh => hd ?_⟩
  rw [← cursor_sub_zero] at hh ⊢
  omega

/-- `rd_p` moves up and its first stage takes `rd`. -/
theorem Chain.seeRd (h : Chain a b c d e f) {m : Cursor} (hm : m.toNat ≤ (c - a).toNat) :
    Chain (a + m) c c d e f := by
  have h1 := h.le
  have h2 := h.rdLag
  obtain ⟨h3, h4⟩ := cursor_move hm
  have h6 := cursor_sub_self c
  exact ⟨by omega⟩

/-- The synchroniser of `wr` shifts: the second stage takes the first, the first a cursor between itself and `wr`. -/
theorem Chain.shiftWr (h : Chain a b c d e f) {m : Cursor} (hm : (m - e).toNat + (f - m).toNat = (f - e).toNat) :
    Chain a b c e m f ∧ (d ≠ c → e ≠ c) := by
  have h1 := h.le
  have h5 : (e - c).toNat = _ := cursor_sub_trans (y := d) (by omega)
  refine ⟨⟨by omega⟩, fun hd hh => hd ?_⟩
  rw [← cursor_sub_zero] at hh ⊢
  omega

/-- The synchroniser of `rd` shifts. -/
theorem Chain.shiftRd (h : Chain a b c d e f) {m : Cursor} (hm : (m - b).toNat + (c - m).toNat = (c - b).toNat) :
    Chain b m c d e f := by
  have h1 := h.le
  exact ⟨by omega⟩

/-- P sees no fewer blocks than fill the queue; a view of `rd` that moves up keeps room that was seen. -/
theorem Chain.room (h : Chain a b c d e f) (hf : f - a ≠ 16#5) {a' b' : Cursor} (h' : Chain a' b' c d e f)
    (hle : (c - a').toNat ≤ (c - a).toNat) : f - a' ≠ 16#5 := by
  have h1 := h.total
  have h2 := h'.total
  have h3 := h.rdLag
  have h4 := h'.rdLag
  have h5 := h.le
  have h6 : (f - a).toNat ≠ 16 := fun hh => hf (BitVec.eq_of_toNat_eq hh)
  intro hh
  have h7 : (f - a').toNat = 16 := by rw [hh]; rfl
  omega

end

/-! The predicates as facts about cursors -/

theorem fullP_iff {s : State} : s.fullP = false ↔ s.wr - s.rdP ≠ 16#5 := by simp [State.fullP]

theorem emptyC_iff {s : State} : s.emptyC = false ↔ s.wrC ≠ s.rd := by simp [State.emptyC]

theorem drainedGray_eq {s : State} (h : s.wrGray = gray s.wr) : s.drainedGray = s.drainedP := by
  unfold State.drainedGray State.drainedP State.rdGrayS2
  rw [h, Bool.eq_iff_iff, beq_iff_eq, beq_iff_eq, gray_inj]

theorem gray_opposite (w r : Cursor) : w - r = 16#5 ↔ gray w = gray r ^^^ 0b11000#5 := by
  revert w r; decide

theorem fullGray_eq {s : State} (h : s.wrGray = gray s.wr) : s.fullGray = s.fullP := by
  unfold State.fullGray State.fullP State.rdGrayS2
  rw [h, Bool.eq_iff_iff, beq_iff_eq, beq_iff_eq, gray_opposite]

theorem emptyGray_eq {s : State} (h : s.rdGray = gray s.rd) : s.emptyGray = s.emptyC := by
  unfold State.emptyGray State.emptyC State.wrGrayS2
  rw [h, Bool.eq_iff_iff, beq_iff_eq, beq_iff_eq, gray_inj, eq_comm]

end Sys2Proof.Machine
end

