-- ==== Sys2Proof/Laws/LevelB.lean ====
section
/-! SUPPORT. What one edge's work on each side can change (spec/20_memory.md R48, R49), and what the start of a tick leaves. -/

namespace Sys2Proof.Machine

/-! An edge, once reset has finished -/

theorem pEdge_running {s : State} (pins : PPins) (x : Cursor) (hr : s.ready = true) (hq : s.rstN = true) :
    pEdge pins x s = .next (((s.pWork pins).pShift x).answer .quiet) := by
  simp [pEdge, hr, hq]

theorem cEdge_running {s : State} {pins : CPins} (x : Cursor) (v : Bool) (hr : s.ready = true) (hq : s.rstN = true)
    (hb : pins.tick = true → s.busy = false) : cEdge pins x v s = .next (((s.cWork pins).cShift x v).answer .quiet) := by
  cases ht : pins.tick <;> simp [cEdge, hr, hq, ht]
  simp [hb ht]

theorem bothEdges_running {s : State} (pins : PPins) {cpins : CPins} (cross : CrossChoice) (hr : s.ready = true)
    (hq : s.rstN = true) (hb : cpins.tick = true → s.busy = false) :
    bothEdges pins cpins cross s =
      .next ((((s.bothWork pins cpins cross.pFirst).pShift
        (if cross.rdNew then (s.bothWork pins cpins cross.pFirst).rdGray else s.rdGray)).cShift
        (if cross.wrNew then (s.bothWork pins cpins cross.pFirst).wrGray else s.wrGray)
        (if cross.carrierNew then (s.bothWork pins cpins cross.pFirst).carrier else s.carrier)).answer .quiet) := by
  cases ht : cpins.tick <;> simp [bothEdges, hr, hq, ht]
  simp [hb ht]

/-- P between commands takes the word offered, if one is. -/
theorem pWork_of_none {s : State} (pins : PPins) (h : s.hold = none) :
    s.pWork pins = if pins.valid then s.acceptB pins.cmd else { s with pRspValid := false } := by
  unfold State.pWork
  split
  · simp_all
  · rfl

/-- P between the two steps of a SEND goes on with step 2. -/
theorem pWork_of_some {s : State} (pins : PPins) {blk : Block} (h : s.hold = some blk) : s.pWork pins = s.writeStepB blk := by
  unfold State.pWork
  split
  · simp_all
  · simp_all

/-- The P side's work never touches what C owns, nor any view or first stage; `wr` moves by at most one. -/
theorem pWork_moves (s : State) (pins : PPins) :
    (s.pWork pins).params = s.params ∧ (s.pWork pins).rd = s.rd ∧ (s.pWork pins).rdGray = s.rdGray ∧
    (s.pWork pins).wrGrayS1 = s.wrGrayS1 ∧ (s.pWork pins).rdGrayS1 = s.rdGrayS1 ∧ (s.pWork pins).rdP = s.rdP ∧
    (s.pWork pins).wrC = s.wrC ∧ (s.pWork pins).busy = s.busy ∧ (s.pWork pins).ready = s.ready ∧
    (s.pWork pins).rstN = s.rstN ∧ (s.pWork pins).turns = s.turns ∧ (s.pWork pins).carrierC = s.carrierC ∧
    ((s.pWork pins).wr = s.wr ∨ (s.pWork pins).wr = s.wr + 1#5) := by
  unfold State.pWork State.writeStepB State.acceptB
  split
  · split
    · exact ⟨rfl, rfl, rfl, rfl, rfl, rfl, rfl, rfl, rfl, rfl, rfl, rfl, .inl rfl⟩
    · exact ⟨rfl, rfl, rfl, rfl, rfl, rfl, rfl, rfl, rfl, rfl, rfl, rfl, .inr rfl⟩
  · split
    · split
      · rename_i arg _
        rcases sendStep1_cases s s.fullGray arg with ⟨_, e⟩ | ⟨b, _, _, e⟩ | ⟨b, _, _, e⟩ <;> rw [e] <;>
          exact ⟨rfl, rfl, rfl, rfl, rfl, rfl, rfl, rfl, rfl, rfl, rfl, rfl, .inl rfl⟩
      all_goals exact ⟨rfl, rfl, rfl, rfl, rfl, rfl, rfl, rfl, rfl, rfl, rfl, rfl, .inl rfl⟩
    · exact ⟨rfl, rfl, rfl, rfl, rfl, rfl, rfl, rfl, rfl, rfl, rfl, rfl, .inl rfl⟩

/-- The C side's work never touches what P owns, nor any view or first stage, nor a slot; `rd` moves by at most one. -/
theorem cWork_moves (s : State) (pins : CPins) :
    (s.cWork pins).params = s.params ∧ (s.cWork pins).wr = s.wr ∧ (s.cWork pins).wrGray = s.wrGray ∧
    (s.cWork pins).slots = s.slots ∧ (s.cWork pins).wrGrayS1 = s.wrGrayS1 ∧ (s.cWork pins).rdGrayS1 = s.rdGrayS1 ∧
    (s.cWork pins).rdP = s.rdP ∧ (s.cWork pins).wrC = s.wrC ∧ (s.cWork pins).hold = s.hold ∧
    (s.cWork pins).carrier = s.carrier ∧ (s.cWork pins).carrierC = s.carrierC ∧ (s.cWork pins).carrierS1 = s.carrierS1 ∧
    (s.cWork pins).ready = s.ready ∧ (s.cWork pins).rstN = s.rstN ∧ (s.cWork pins).turns = s.turns ∧
    ((s.cWork pins).rd = s.rd ∨ (s.cWork pins).rd = s.rd + 1#5) := by
  unfold State.cWork State.startTickB State.finishB State.presentB
  split
  · cases h1 : s.emptyGray <;> cases h2 : s.carrierC <;> simp [chooseState, h2]
  · split
    · split
      · cases s.src
        · exact ⟨rfl, rfl, rfl, rfl, rfl, rfl, rfl, rfl, rfl, rfl, rfl, rfl, rfl, rfl, rfl, .inl rfl⟩
        · exact ⟨rfl, rfl, rfl, rfl, rfl, rfl, rfl, rfl, rfl, rfl, rfl, rfl, rfl, rfl, rfl, .inl rfl⟩
        · exact ⟨rfl, rfl, rfl, rfl, rfl, rfl, rfl, rfl, rfl, rfl, rfl, rfl, rfl, rfl, rfl, .inr rfl⟩
      · split <;> exact ⟨rfl, rfl, rfl, rfl, rfl, rfl, rfl, rfl, rfl, rfl, rfl, rfl, rfl, rfl, rfl, .inl rfl⟩
    · exact ⟨rfl, rfl, rfl, rfl, rfl, rfl, rfl, rfl, rfl, rfl, rfl, rfl, rfl, rfl, rfl, .inl rfl⟩

/-- The source of a block, by R116, when a tick starts on gray codes in step. -/
theorem startTickB_cases {s : State} (h : s.rdGray = gray s.rd) :
    (s.emptyC = false ∧ s.startTickB.src = .draining ∧ s.startTickB.seqState = .draining ∧
      s.startTickB.lastSense = s.lastSense) ∨
    (s.emptyC = true ∧ s.carrierC = true ∧ s.startTickB.src = .carrierIdle ∧ s.startTickB.seqState = .carrierIdle ∧
      s.startTickB.lastSense = (s.fetch .idle).2.lastSense) ∨
    (s.emptyC = true ∧ s.carrierC = false ∧ s.startTickB.src = .silent ∧ s.startTickB.seqState = .silent ∧
      s.startTickB.lastSense = (s.fetch .silence).2.lastSense) := by
  have he := emptyGray_eq h
  cases h1 : s.emptyC <;> cases h2 : s.carrierC <;> rw [h1] at he <;>
    simp [State.startTickB, he, h2, chooseState]

end Sys2Proof.Machine
end

