-- ==== Sys2Proof/Laws/BothEdges.lean ====
section
/-! SUPPORT. What each side's work at an edge reads of what the other side's work writes: `lastSense` alone (spec/20_memory.md R48, R49,
spec/60_exceptions.md R143). -/

namespace Sys2Proof.Machine

/-- `t` is, to the C side's work, the state `s` but for `lastSense` (and the mark of R40's bound). -/
structure SameForC (s t : State) : Prop where
  params : t.params = s.params
  rd : t.rd = s.rd
  rdGray : t.rdGray = s.rdGray
  wrC : t.wrC = s.wrC
  carrierC : t.carrierC = s.carrierC
  carrierS1 : t.carrierS1 = s.carrierS1
  seqState : t.seqState = s.seqState
  src : t.src = s.src
  pol : t.pol = s.pol
  sidx : t.sidx = s.sidx
  busy : t.busy = s.busy
  cValid : t.cValid = s.cValid
  cData : t.cData = s.cData
  cLast : t.cLast = s.cLast
  /-- Where the slot being emitted is not the one being written. -/
  head : s.src = .draining → s.busy = true → t.slotRead s.rd = s.slotRead s.rd

/-- `t` is, to the P side's work, the state `s` but for `lastSense`. -/
structure SameForP (s t : State) : Prop where
  params : t.params = s.params
  wr : t.wr = s.wr
  wrGray : t.wrGray = s.wrGray
  slots : t.slots = s.slots
  rdP : t.rdP = s.rdP
  hold : t.hold = s.hold
  carrier : t.carrier = s.carrier
  carrierS1 : t.carrierS1 = s.carrierS1
  sendIdx : t.sendIdx = s.sendIdx
  pRspValid : t.pRspValid = s.pRspValid
  pRsp : t.pRsp = s.pRsp

/-- C's work leaves P's side as it was. -/
theorem cWork_sameForP (s : State) (pins : CPins) : SameForP s (s.cWork pins) := by
  unfold State.cWork State.startTickB State.finishB State.presentB
  split
  · cases s.emptyGray <;> cases s.carrierC <;> simp only [chooseState] <;>
      exact ⟨rfl, rfl, rfl, rfl, rfl, rfl, rfl, rfl, rfl, rfl, rfl⟩
  · split
    · split
      · cases s.src <;> exact ⟨rfl, rfl, rfl, rfl, rfl, rfl, rfl, rfl, rfl, rfl, rfl⟩
      · split <;> exact ⟨rfl, rfl, rfl, rfl, rfl, rfl, rfl, rfl, rfl, rfl, rfl⟩
    · exact ⟨rfl, rfl, rfl, rfl, rfl, rfl, rfl, rfl, rfl, rfl, rfl⟩

/-- P's work leaves C's side as it was, given that a slot P writes is not the one C emits (R41 item 3). -/
theorem pWork_sameForC (s : State) (pins : PPins)
    (hd : s.hold.isSome = true → s.src = .draining → s.busy = true → slotIndex s.wr ≠ slotIndex s.rd) :
    SameForC s (s.pWork pins) := by
  cases hh : s.hold with
  | some blk =>
    rw [pWork_of_some pins hh]
    unfold State.writeStepB
    split
    · refine ⟨rfl, rfl, rfl, rfl, rfl, rfl, rfl, rfl, rfl, rfl, rfl, rfl, rfl, rfl, fun h1 h2 => ?_⟩
      show (s.slotWrite s.wr _).slotRead s.rd = _
      rw [slotRead_slotWrite, if_neg (hd (by rw [hh]; rfl) h1 h2)]
    · exact ⟨rfl, rfl, rfl, rfl, rfl, rfl, rfl, rfl, rfl, rfl, rfl, rfl, rfl, rfl, fun _ _ => rfl⟩
  | none =>
    rw [pWork_of_none pins hh]
    unfold State.acceptB
    split
    · split
      · rename_i arg _
        rcases sendStep1_cases s s.fullGray arg with ⟨_, e⟩ | ⟨_, _, _, e⟩ | ⟨_, _, _, e⟩ <;> rw [e] <;>
          exact ⟨rfl, rfl, rfl, rfl, rfl, rfl, rfl, rfl, rfl, rfl, rfl, rfl, rfl, rfl, fun _ _ => rfl⟩
      all_goals exact ⟨rfl, rfl, rfl, rfl, rfl, rfl, rfl, rfl, rfl, rfl, rfl, rfl, rfl, rfl, fun _ _ => rfl⟩
    · exact ⟨rfl, rfl, rfl, rfl, rfl, rfl, rfl, rfl, rfl, rfl, rfl, rfl, rfl, rfl, fun _ _ => rfl⟩

/-- C's work on two states that are the same to it: the same registers, `lastSense` toggled alike, and at the start of a fallback tick
`pol` is the `lastSense` found. -/
theorem cWork_agrees {s t : State} (d : SameForC s t) (pins : CPins) :
    (t.cWork pins).rd = (s.cWork pins).rd ∧ (t.cWork pins).rdGray = (s.cWork pins).rdGray ∧
    (t.cWork pins).seqState = (s.cWork pins).seqState ∧ (t.cWork pins).src = (s.cWork pins).src ∧
    (t.cWork pins).sidx = (s.cWork pins).sidx ∧ (t.cWork pins).busy = (s.cWork pins).busy ∧
    (t.cWork pins).cValid = (s.cWork pins).cValid ∧ (t.cWork pins).cData = (s.cWork pins).cData ∧
    (t.cWork pins).cLast = (s.cWork pins).cLast ∧
    ((t.cWork pins).lastSense ^^ t.lastSense) = ((s.cWork pins).lastSense ^^ s.lastSense) ∧
    (t.cWork pins).pol = (if pins.tick ∧ s.emptyGray then t.lastSense else s.pol) := by
  have he : t.emptyGray = s.emptyGray := by simp only [State.emptyGray, State.wrGrayS2, d.rdGray, d.wrC]
  have hc : ∀ y, t.cacheRead y = s.cacheRead y := fun y => by simp only [State.cacheRead, d.params]
  unfold State.cWork
  rw [d.busy, d.cLast]
  split
  · rename_i ht
    unfold State.startTickB
    rw [he, d.carrierC]
    cases s.emptyGray <;> cases s.carrierC <;> simp only [chooseState, ht, State.fetch, hc, phaseAfter] <;>
      simp [d.rd, d.rdGray, d.pol, d.cData, Bool.xor_comm]
  · rename_i ht
    have ht' : pins.tick = false := by simpa using ht
    split
    · rename_i hb
      split
      · unfold State.finishB
        rw [d.src]
        cases hs : s.src <;>
          simp [ht', d.rd, d.rdGray, d.seqState, d.src, d.sidx, d.cData, d.pol, hs, State.advance, State.setRd]
      · split
        · simp [ht', d.rd, d.rdGray, d.seqState, d.src, d.sidx, d.cData, d.pol]
        · have hv : t.sampleB = s.sampleB := by
            unfold State.sampleB
            rw [d.src]
            cases hs : s.src
            · rfl
            · simp only [d.params, d.pol, d.sidx]
            · simp only [State.ramRead, d.rd, d.head hs hb, d.sidx]
          simp only [State.presentB, hv, d.sidx]
          simp [ht', d.rd, d.rdGray, d.seqState, d.src, d.pol, d.busy]
    · simp [ht', d.rd, d.rdGray, d.seqState, d.src, d.sidx, d.cData, d.pol]

/-- P's work on two states that are the same to it: the same registers, `lastSense` toggled alike, and a SEND accepted at this edge
FETCHes the variant the `lastSense` found selects. -/
theorem pWork_agrees {s t : State} (d : SameForP s t) (pins : PPins) :
    (t.pWork pins).slots = (s.pWork pins).slots ∧ (t.pWork pins).wr = (s.pWork pins).wr ∧
    (t.pWork pins).wrGray = (s.pWork pins).wrGray ∧ (t.pWork pins).carrier = (s.pWork pins).carrier ∧
    (t.pWork pins).sendIdx = (s.pWork pins).sendIdx ∧ (t.pWork pins).pRspValid = (s.pWork pins).pRspValid ∧
    (t.pWork pins).pRsp = (s.pWork pins).pRsp ∧ (t.pWork pins).hold.isSome = (s.pWork pins).hold.isSome ∧
    ((t.pWork pins).lastSense ^^ t.lastSense) = ((s.pWork pins).lastSense ^^ s.lastSense) ∧
    (s.hold ≠ none → (t.pWork pins).hold = (s.pWork pins).hold) ∧
    (∀ arg, s.hold = none → pins.valid = true → decode pins.cmd = .ok (.send arg) → arg[8] = false → s.fullGray = false →
      (t.pWork pins).hold = some (variantOf (render s.params (.byte (arg.setWidth 8))) t.lastSense)) := by
  have hf : t.fullGray = s.fullGray := by simp only [State.fullGray, State.rdGrayS2, d.wrGray, d.rdP]
  have hg : t.drainedGray = s.drainedGray := by simp only [State.drainedGray, State.rdGrayS2, d.wrGray, d.rdP]
  have hc : ∀ y, t.cacheRead y = s.cacheRead y := fun y => by simp only [State.cacheRead, d.params]
  have hx : (t.lastSense ^^ t.lastSense) = (s.lastSense ^^ s.lastSense) := by simp
  have hm : t.hold.isSome = s.hold.isSome := by rw [d.hold]
  cases hh : s.hold with
  | some blk =>
    rw [pWork_of_some pins hh, pWork_of_some pins (d.hold.trans hh)]
    unfold State.writeStepB
    rw [d.wr]
    have hs := d.sendIdx
    split
    · rename_i h1
      rw [dif_pos (by rw [← hs]; exact h1)]
      refine ⟨?_, d.wr, d.wrGray, d.carrier, by simp [hs], rfl, d.pRsp, hm, hx, fun _ => d.hold, by simp⟩
      show t.slots.set _ _ = s.slots.set _ _
      simp only [d.slots, slotRead_congr d.slots, hs]
    · rename_i h1
      rw [dif_neg (by rw [← hs]; exact h1)]
      refine ⟨d.slots, rfl, rfl, d.carrier, rfl, rfl, ?_, rfl, hx, fun _ => rfl, by simp⟩
      show responseWord _ (_ == gray t.rdP) (_ == gray t.rdP ^^^ _) = responseWord _ (_ == gray s.rdP) (_ == gray s.rdP ^^^ _)
      rw [d.rdP]
      rfl
  | none =>
    rw [pWork_of_none pins hh, pWork_of_none pins (d.hold.trans hh)]
    split
    · have hr : ∀ st, (t.respondB st).pRsp = (s.respondB st).pRsp := fun st => by simp only [State.respondB, hf, hg]
      unfold State.acceptB
      rw [hf]
      split
      · rename_i arg hd
        rcases sendStep1_cases s s.fullGray arg with ⟨hb, e⟩ | ⟨b, hb, hq, e⟩ | ⟨b, hb, hq, e⟩ <;>
          rcases sendStep1_cases t s.fullGray arg with ⟨hb2, e2⟩ | ⟨b2, hb2, hq2, e2⟩ | ⟨b2, hb2, hq2, e2⟩ <;> rw [e, e2]
        all_goals first
          | (rw [hb] at hb2; cases hb2; done)
          | (rw [hq] at hq2; cases hq2; done)
          | skip
        · refine ⟨d.slots, d.wr, d.wrGray, d.carrier, d.sendIdx, rfl, hr _, hm, hx, by simp, fun a _ _ ha h8 => ?_⟩
          rw [hd] at ha
          cases ha
          rw [byteOf_some h8] at hb
          cases hb
        · refine ⟨d.slots, d.wr, d.wrGray, d.carrier, d.sendIdx, rfl, hr _, hm, hx, by simp, fun a _ _ ha h8 h => ?_⟩
          rw [h] at hq
          cases hq
        · rw [hb] at hb2
          cases hb2
          refine ⟨d.slots, d.wr, d.wrGray, d.carrier, rfl, rfl, d.pRsp, rfl, ?_, by simp, fun a _ _ ha h8 _ => ?_⟩
          · simp [sendAnswerB, State.fetch, hc, phaseAfter, Bool.xor_comm]
          · rw [hd] at ha
            cases ha
            rw [byteOf_some h8] at hb
            cases hb
            show some (variantOf (t.cacheRead _) _) = _
            rw [hc]
            rfl
      · rename_i v hd
        exact ⟨d.slots, d.wr, d.wrGray, rfl, d.sendIdx, rfl, hr .ok, hm, hx, by simp, fun a _ _ ha => by rw [hd] at ha; cases ha⟩
      · rename_i hd
        exact ⟨d.slots, d.wr, d.wrGray, d.carrier, d.sendIdx, rfl, hr _, hm, hx, by simp,
          fun a _ _ ha => by rw [hd] at ha; cases ha⟩
      · rename_i i h1 _ _ hd
        exact ⟨d.slots, d.wr, d.wrGray, d.carrier, d.sendIdx, rfl, hr _, hm, hx, by simp,
          fun a _ _ ha => by rw [hd] at ha; cases ha; exact absurd rfl (h1 a)⟩
      · rename_i hd
        exact ⟨d.slots, d.wr, d.wrGray, d.carrier, d.sendIdx, rfl, hr _, hm, hx, by simp,
          fun a _ _ ha => by rw [hd] at ha; cases ha⟩
    · rename_i hv
      exact ⟨d.slots, d.wr, d.wrGray, d.carrier, d.sendIdx, rfl, d.pRsp, hm, hx, by simp, fun _ _ h => absurd h hv⟩

end Sys2Proof.Machine
end

