-- ==== Sys2Proof/Laws/Decode.lean ====
section
/-! SUPPORT. The two fields of an operation word (spec/30_encoding.md R59), and the words SETC's operand can be. -/

namespace Sys2Proof

/-- The opid field of a word made of an opid and an operand. -/
@[simp] theorem opidOf_append (o : BitVec 4) (a : SymCode) : opidOf (o ++ a) = o := by
  have ha := a.isLt
  have e : ((o ++ a : BitVec (4 + 9))).toNat = o.toNat * 512 + a.toNat := by
    rw [BitVec.toNat_append, ← Nat.shiftLeft_add_eq_or_of_lt ha, Nat.shiftLeft_eq]
  apply BitVec.eq_of_toNat_eq
  show ((o ++ a : BitVec (4 + 9)).toNat >>> 9) % 16 = o.toNat
  have ho := o.isLt
  rw [e, Nat.shiftRight_eq_div_pow]
  omega

/-- The operand field of a word made of an opid and an operand. -/
@[simp] theorem argOf_append (o : BitVec 4) (a : SymCode) : argOf (o ++ a) = a := by
  have ha := a.isLt
  have e : ((o ++ a : BitVec (4 + 9))).toNat = o.toNat * 512 + a.toNat := by
    rw [BitVec.toNat_append, ← Nat.shiftLeft_add_eq_or_of_lt ha, Nat.shiftLeft_eq]
  apply BitVec.eq_of_toNat_eq
  show ((o ++ a : BitVec (4 + 9)).toNat >>> 0) % 512 = a.toNat
  rw [e]
  omega

/-- A word is its two fields. -/
theorem append_fields (w : OpWord) : opidOf w ++ argOf w = w := by
  ext i hi
  simp only [opidOf, argOf, BitVec.getElem_append, BitVec.getElem_extractLsb']
  split
  · rw [Nat.zero_add, BitVec.getLsbD_eq_getElem]
  · rw [← BitVec.getLsbD_eq_getElem]; congr 1; omega

/-- SETC's operand gives its value back. -/
@[simp] theorem decodeSetc_arg (v : Bool) : decodeSetc ((BitVec.ofBool v).setWidth 9) = .ok (.setc v) := by
  cases v <;> rfl

end Sys2Proof
end

