-- ==== Sys2Proof/Laws/Exec.lean ====
section
/-! SUPPORT. What each operation can answer, said once: an equation for every case, conditions included. -/

namespace Sys2Proof.Machine

variable (s : State)

/-- SEND: the port is closed, or it is refused with a status, or the byte goes into `hold`. -/
theorem execSend_cases (arg : SymCode) :
    (s.hold.isSome = true ∧ exec (.send arg) s = .refused .portBusy) ∨
    (s.hold = none ∧ byteOf arg = none ∧ exec (.send arg) s = .next (s.raisePort .badSym)) ∨
    (∃ b, s.hold = none ∧ byteOf arg = some b ∧ s.fullP = true ∧ exec (.send arg) s = .next (s.raisePort .full)) ∨
    (∃ b, s.hold = none ∧ byteOf arg = some b ∧ s.fullP = false ∧
      exec (.send arg) s =
        .next (State.answer { (s.fetch (.byte b)).2 with hold := some (s.fetch (.byte b)).1 } .quiet)) := by
  show _ ∨ (_ ∧ _ ∧ s.portOpen _ = _) ∨ (∃ b, _ ∧ _ ∧ _ ∧ s.portOpen _ = _) ∨ (∃ b, _ ∧ _ ∧ _ ∧ s.portOpen _ = _)
  cases hh : s.hold with
  | some blk => exact .inl ⟨rfl, by simp [exec, execSend, State.portOpen, hh]⟩
  | none =>
    refine .inr ?_
    rw [portOpen_of_none hh]
    rcases sendStep1_cases s s.fullP arg with ⟨hb, e⟩ | ⟨b, hb, hf, e⟩ | ⟨b, hb, hf, e⟩ <;> rw [e]
    · exact .inl ⟨rfl, hb, rfl⟩
    · exact .inr (.inl ⟨b, rfl, hb, hf, rfl⟩)
    · exact .inr (.inr ⟨b, rfl, hb, hf, rfl⟩)

theorem execSetc_next {v : Bool} {t : State} :
    exec (.setc v) s = .next t ↔ s.hold = none ∧ (s.setCarrier v).respond .ok = t := portOpen_next

theorem execIsdr_next {t : State} : exec .isdr s = .next t ↔ s.hold = none ∧ s.respond .ok = t := portOpen_next

theorem execBuild_cases (sym : SymCode) :
    (symbolOf sym = none ∧ exec (.build sym) s = .next (s.raiseInner .badSym)) ∨
    (∃ y, symbolOf sym = some y ∧ exec (.build sym) s = .next (s.answer (.record (render s.params y)))) := by
  show (_ ∧ execBuild sym s = _) ∨ (∃ y, _ ∧ execBuild sym s = _)
  unfold execBuild build
  cases symbolOf sym with
  | none => exact .inl ⟨rfl, rfl⟩
  | some y => exact .inr ⟨y, rfl, rfl⟩

theorem execFetch_cases (sym : SymCode) :
    (symbolOf sym = none ∧ exec (.fetch sym) s = .next (s.raiseInner .badSym)) ∨
    (∃ y, symbolOf sym = some y ∧ exec (.fetch sym) s =
      .next { (s.fetch y).2 with dataPath := (s.fetch y).1, out := .returned (s.fetch y).1 }) := by
  show (_ ∧ execFetch sym s = _) ∨ (∃ y, _ ∧ execFetch sym s = _)
  unfold execFetch
  cases symbolOf sym with
  | none => exact .inl ⟨rfl, rfl⟩
  | some y => exact .inr ⟨y, rfl, rfl⟩

/-- ENQ: FULL in its two forms, or the block stored in its two forms. -/
theorem execEnq_cases :
    (s.hold = none ∧ s.fullP = true ∧ exec .enq s = .next (s.raiseInner .full)) ∨
    (s.hold = none ∧ s.fullP = false ∧ exec .enq s = .next ((s.enqueue s.dataPath).answer (.status .ok))) ∨
    (s.hold.isSome = true ∧ s.fullP = true ∧ exec .enq s = .next (s.raisePort .full)) ∨
    (∃ blk, s.hold = some blk ∧ s.fullP = false ∧
      exec .enq s = .next (State.respond { s.enqueue blk with hold := none, sendIdx := 0 } .ok)) := by
  show (_ ∧ _ ∧ execEnq s = _) ∨ (_ ∧ _ ∧ execEnq s = _) ∨ (_ ∧ _ ∧ execEnq s = _) ∨ (∃ blk, _ ∧ _ ∧ execEnq s = _)
  unfold execEnq State.enqHeld State.enqPath
  cases hh : s.hold <;> cases hf : s.fullP <;> simp

theorem execPeek_cases :
    (s.emptyC = true ∧ exec .peek s = .next (s.answer (.status .empty))) ∨
    (s.emptyC = false ∧ exec .peek s = .next (s.answer (.returned (s.slotRead s.rd)))) := by
  show (_ ∧ execPeek s = _) ∨ (_ ∧ execPeek s = _)
  unfold execPeek State.peek
  cases s.emptyC
  · exact .inr ⟨rfl, rfl⟩
  · exact .inl ⟨rfl, rfl⟩

theorem execAdvr_cases :
    (s.emptyC = true ∧ exec .advr s = .next (s.raiseInner .empty)) ∨
    (s.emptyC = false ∧ exec .advr s = .next (s.advance.answer (.status .ok))) := by
  show (_ ∧ execAdvr s = _) ∨ (_ ∧ execAdvr s = _)
  unfold execAdvr
  cases s.emptyC
  · exact .inr ⟨rfl, rfl⟩
  · exact .inl ⟨rfl, rfl⟩

/-- TICK: the head block where C sees one, else the idle-carrier or the silence fallback, by `carrier_c` as it stands. -/
theorem execTick_cases :
    (s.emptyC = false ∧ exec .tick s =
      .next (State.answer { s.noteCarrier.advance with seqState := .draining } (.emitted (s.slotRead s.rd) true))) ∨
    (s.emptyC = true ∧ s.carrierC = true ∧ exec .tick s =
      .next (State.answer { (s.noteCarrier.fetch .idle).2 with seqState := .carrierIdle } (.emitted (s.fetch .idle).1 true))) ∨
    (s.emptyC = true ∧ s.carrierC = false ∧ exec .tick s =
      .next (State.answer { (s.noteCarrier.fetch .silence).2 with seqState := .silent }
        (.emitted (s.fetch .silence).1 true))) := by
  have e : exec .tick s = .next (s.noteCarrier.emitBlock.2.answer (.emitted s.noteCarrier.emitBlock.1 true)) := rfl
  rcases emitBlock_cases s.noteCarrier with ⟨h1, h2⟩ | ⟨h1, h3, h2⟩ | ⟨h1, h3, h2⟩
  · exact .inl ⟨h1, by rw [e, h2]; rfl⟩
  · exact .inr (.inl ⟨h1, h3, by rw [e, h2]; rfl⟩)
  · exact .inr (.inr ⟨h1, h3, by rw [e, h2]; rfl⟩)

theorem execReset_eq : exec .reset s = .next s.resetAll := rfl

theorem execSyncw_cases :
    (s.wrC = s.wr ∧ exec .syncw s = .next (s.answer .quiet)) ∨
    (s.wrC ≠ s.wr ∧ exec .syncw s = .next ((s.setWrC s.nextWrC).answer .quiet)) := by
  show (_ ∧ execSyncw s = _) ∨ (_ ∧ execSyncw s = _)
  unfold execSyncw
  by_cases h : s.wrC = s.wr
  · exact .inl ⟨h, if_pos h⟩
  · exact .inr ⟨h, if_neg h⟩

theorem execSyncr_cases :
    (s.rdP = s.rd ∧ exec .syncr s = .next (s.answer .quiet)) ∨
    (s.rdP ≠ s.rd ∧ exec .syncr s = .next ((s.setRdP s.nextRdP).answer .quiet)) := by
  show (_ ∧ execSyncr s = _) ∨ (_ ∧ execSyncr s = _)
  unfold execSyncr
  by_cases h : s.rdP = s.rd
  · exact .inl ⟨h, if_pos h⟩
  · exact .inr ⟨h, if_neg h⟩

theorem execSyncc_cases :
    (s.carrierC = s.carrier ∧ exec .syncc s = .next (s.answer .quiet)) ∨
    (s.carrierC ≠ s.carrier ∧ exec .syncc s = .next (s.syncCarrier.answer .quiet)) := by
  show (_ ∧ execSyncc s = _) ∨ (_ ∧ execSyncc s = _)
  unfold execSyncc
  by_cases h : s.carrierC = s.carrier
  · exact .inl ⟨h, if_pos h⟩
  · exact .inr ⟨h, if_neg h⟩

/-! Runs with their FETCHes -/

@[simp] theorem runFetching_nil : runFetching [] s = ([], s) := rfl

theorem runFetching_next {i : Instr} {t : State} (is : List Instr) (h : exec i s = .next t) :
    runFetching (i :: is) s = ((fetchOf i s t).toList ++ (runFetching is t).1, (runFetching is t).2) := by
  simp only [runFetching, h]

theorem runFetching_refused {i : Instr} {r : Refusal} (is : List Instr) (h : exec i s = .refused r) :
    runFetching (i :: is) s = runFetching is s := by
  simp only [runFetching, h]

/-- An operation other than RESET keeps the parameters, and `lastSense` changes by the FETCH it makes and by nothing else (R90). -/
theorem fetchOf_cases {i : Instr} {s t : State} (hi : i ≠ .reset) (he : exec i s = .next t) :
    t.params = s.params ∧
    ((fetchOf i s t = none ∧ t.lastSense = s.lastSense) ∨
     ∃ y, fetchOf i s t = some (y, (s.fetch y).1) ∧ t.lastSense = (s.fetch y).2.lastSense) := by
  cases i with
  | send arg =>
    rcases execSend_cases s arg with ⟨_, e⟩ | ⟨_, hb, e⟩ | ⟨b, hh, hb, _, e⟩ | ⟨b, hh, hb, hf, e⟩ <;>
      rw [e] at he <;> cases he
    · exact ⟨rfl, .inl ⟨by simp [fetchOf, hb], rfl⟩⟩
    · exact ⟨rfl, .inl ⟨by simp [fetchOf, hb, hh, State.raisePort, State.respond], rfl⟩⟩
    · exact ⟨rfl, .inr ⟨.byte b, by simp [fetchOf, hb, hh], rfl⟩⟩
  | setc v => obtain ⟨_, rfl⟩ := (execSetc_next s).1 he; exact ⟨rfl, .inl ⟨rfl, rfl⟩⟩
  | isdr => obtain ⟨_, rfl⟩ := (execIsdr_next s).1 he; exact ⟨rfl, .inl ⟨rfl, rfl⟩⟩
  | build sym =>
    rcases execBuild_cases s sym with ⟨_, e⟩ | ⟨y, _, e⟩ <;> rw [e] at he <;> cases he <;> exact ⟨rfl, .inl ⟨rfl, rfl⟩⟩
  | fetch sym =>
    rcases execFetch_cases s sym with ⟨h, e⟩ | ⟨y, h, e⟩ <;> rw [e] at he <;> cases he
    · exact ⟨rfl, .inl ⟨by simp [fetchOf, h], rfl⟩⟩
    · exact ⟨rfl, .inr ⟨y, by simp [fetchOf, h], rfl⟩⟩
  | enq =>
    rcases execEnq_cases s with ⟨_, _, e⟩ | ⟨hh, hf, e⟩ | ⟨_, _, e⟩ | ⟨b, hh, hf, e⟩ <;>
      rw [e] at he <;> cases he <;> exact ⟨rfl, .inl ⟨rfl, rfl⟩⟩
  | peek =>
    rcases execPeek_cases s with ⟨_, e⟩ | ⟨_, e⟩ <;> rw [e] at he <;> cases he <;> exact ⟨rfl, .inl ⟨rfl, rfl⟩⟩
  | advr =>
    rcases execAdvr_cases s with ⟨_, e⟩ | ⟨hc, e⟩ <;> rw [e] at he <;> cases he <;> exact ⟨rfl, .inl ⟨rfl, rfl⟩⟩
  | tick =>
    rcases execTick_cases s with ⟨hc, e⟩ | ⟨hc, _, e⟩ | ⟨hc, _, e⟩ <;> rw [e] at he <;> cases he
    · exact ⟨rfl, .inl ⟨rfl, rfl⟩⟩
    · exact ⟨rfl, .inr ⟨.idle, rfl, rfl⟩⟩
    · exact ⟨rfl, .inr ⟨.silence, rfl, rfl⟩⟩
  | reset => exact absurd rfl hi
  | syncw =>
    rcases execSyncw_cases s with ⟨_, e⟩ | ⟨_, e⟩ <;> rw [e] at he <;> cases he <;> exact ⟨rfl, .inl ⟨rfl, rfl⟩⟩
  | syncr =>
    rcases execSyncr_cases s with ⟨_, e⟩ | ⟨_, e⟩ <;> rw [e] at he <;> cases he <;> exact ⟨rfl, .inl ⟨rfl, rfl⟩⟩
  | syncc =>
    rcases execSyncc_cases s with ⟨_, e⟩ | ⟨_, e⟩ <;> rw [e] at he <;> cases he <;> exact ⟨rfl, .inl ⟨rfl, rfl⟩⟩

end Sys2Proof.Machine
end

