-- ==== Sys2Proof/Laws/Invariant.lean ====
section
/-! SUPPORT. What each shared operation does to the invariant of Safety.lean: one lemma an operation. -/

namespace Sys2Proof.Machine

section

variable {s : State}

theorem State.Inv.ch (h : s.Inv) : Chain s.rdP (ungray s.rdGrayS1) s.rd s.wrC (ungray s.wrGrayS1) s.wr := ⟨h.chain⟩

/-! Operations that touch nothing the invariant speaks of -/

theorem State.Inv.answer (h : s.Inv) (o : Output) : (s.answer o).Inv :=
  ⟨h.chain, h.wrCode, h.rdCode, h.holdRoom, h.emission, h.sending, h.lastSample, h.resetHeld, h.stale⟩

theorem State.Inv.respond (h : s.Inv) (st : Status) : (s.respond st).Inv := h.answer _

theorem State.Inv.raisePort (h : s.Inv) (st : Status) : (s.raisePort st).Inv := h.answer _

theorem State.Inv.raiseInner (h : s.Inv) (st : Status) : (s.raiseInner st).Inv := h.answer _

theorem State.Inv.withTurns (h : s.Inv) (l : List Turn) : (s.withTurns l).Inv :=
  ⟨h.chain, h.wrCode, h.rdCode, h.holdRoom, h.emission, h.sending, h.lastSample, h.resetHeld, h.stale⟩

theorem State.Inv.withChoice (h : s.Inv) (n : Nat) : (s.withChoice n).Inv :=
  ⟨h.chain, h.wrCode, h.rdCode, h.holdRoom, h.emission, h.sending, h.lastSample, h.resetHeld, h.stale⟩

theorem State.Inv.withBatch (h : s.Inv) (b : Option Batch) : ({ s with batch := b } : State).Inv :=
  ⟨h.chain, h.wrCode, h.rdCode, h.holdRoom, h.emission, h.sending, h.lastSample, h.resetHeld, h.stale⟩

theorem State.Inv.withDataPath (h : s.Inv) (blk : Block) (o : Output) : ({ s with dataPath := blk, out := o } : State).Inv :=
  ⟨h.chain, h.wrCode, h.rdCode, h.holdRoom, h.emission, h.sending, h.lastSample, h.resetHeld, h.stale⟩

theorem State.Inv.withSeqState (h : s.Inv) (q : SeqState) : ({ s with seqState := q } : State).Inv :=
  ⟨h.chain, h.wrCode, h.rdCode, h.holdRoom, h.emission, h.sending, h.lastSample, h.resetHeld, h.stale⟩

theorem State.Inv.withResponse (h : s.Inv) (v : Bool) (r : BitVec 5) :
    ({ s with pRspValid := v, pRsp := r } : State).Inv :=
  ⟨h.chain, h.wrCode, h.rdCode, h.holdRoom, h.emission, h.sending, h.lastSample, h.resetHeld, h.stale⟩

theorem State.Inv.slotWrite (h : s.Inv) (c : Cursor) (blk : Block) : (s.slotWrite c blk).Inv :=
  ⟨h.chain, h.wrCode, h.rdCode, h.holdRoom, h.emission, h.sending, h.lastSample, h.resetHeld, h.stale⟩

theorem State.Inv.fetch (h : s.Inv) (y : Symbol) : (s.fetch y).2.Inv :=
  ⟨h.chain, h.wrCode, h.rdCode, h.holdRoom, h.emission, h.sending, h.lastSample, h.resetHeld, h.stale⟩

/-! The carrier and its view -/

theorem State.Inv.setCarrier (h : s.Inv) (v : Bool) : (s.setCarrier v).Inv := by
  refine ⟨h.chain, h.wrCode, h.rdCode, h.holdRoom, h.emission, h.sending, h.lastSample, h.resetHeld, fun hs => ?_⟩
  simp only [State.setCarrier_staleTick, Bool.and_eq_true, beq_iff_eq] at hs
  have hc := h.stale hs.1
  rw [hs.2] at hc
  exact hc

theorem State.Inv.syncCarrier (h : s.Inv) : s.syncCarrier.Inv :=
  ⟨h.chain, h.wrCode, h.rdCode, h.holdRoom, h.emission, h.sending, h.lastSample, h.resetHeld, fun hs => by simp at hs⟩

theorem State.Inv.noteCarrier (h : s.Inv) : s.noteCarrier.Inv :=
  ⟨h.chain, h.wrCode, h.rdCode, h.holdRoom, h.emission, h.sending, h.lastSample, h.resetHeld, fun hs => by simpa using hs⟩

/-! The queue -/

/-- A SEND's block may be held where P sees room. -/
theorem State.Inv.intoHold (h : s.Inv) (hf : s.fullP = false) (blk : Block) : ({ s with hold := some blk } : State).Inv :=
  ⟨h.chain, h.wrCode, h.rdCode, fun _ => hf, h.emission, fun _ => rfl, h.lastSample, h.resetHeld, h.stale⟩

/-- `wr` moves on where P sees room, and no SEND is left between its steps. -/
theorem State.Inv.push (h : s.Inv) (hf : s.fullP = false) :
    ({ s.setWr (s.wr + 1#5) with hold := none, sendIdx := 0 } : State).Inv :=
  ⟨(h.ch.push (fullP_iff.1 hf)).le, rfl, h.rdCode, fun hs => by simp at hs, h.emission, fun hs => by simp at hs, h.lastSample,
    h.resetHeld, h.stale⟩

/-- The same for an ENQ outside a SEND. -/
theorem State.Inv.pushAlone (h : s.Inv) (hf : s.fullP = false) (hh : s.hold = none) : (s.setWr (s.wr + 1#5)).Inv :=
  ⟨(h.ch.push (fullP_iff.1 hf)).le, rfl, h.rdCode, fun hs => by simp [hh] at hs, h.emission, fun hs => h.sending hs, h.lastSample,
    h.resetHeld, h.stale⟩

/-- `rd` moves on where C sees a block, and no block is left being emitted. -/
theorem State.Inv.pop (h : s.Inv) (he : s.emptyC = false) (v : Bool) :
    ({ s.advance with busy := false, cValid := v, cLast := false } : State).Inv :=
  ⟨(h.ch.pop (emptyC_iff.1 he)).le, h.wrCode, rfl, h.holdRoom, fun hs => by simp at hs, h.sending, fun hs => by simp at hs,
    h.resetHeld, h.stale⟩

/-- The same for an ADVR outside an emission. -/
theorem State.Inv.popAlone (h : s.Inv) (he : s.emptyC = false) (hb : s.busy = false) : s.advance.Inv :=
  ⟨(h.ch.pop (emptyC_iff.1 he)).le, h.wrCode, rfl, h.holdRoom, fun hs => by simp [hb] at hs, h.sending,
    fun hs => h.lastSample hs, h.resetHeld, h.stale⟩

/-- C's view moves up by no more than its lag. -/
theorem State.Inv.seeWr (h : s.Inv) {m : Cursor} (hm : m.toNat ≤ (s.wr - s.wrC).toNat) : (s.setWrC (s.wrC + m)).Inv := by
  have hc := h.ch.seeWr hm
  have hg : ungray s.wrGray = s.wr := by rw [h.wrCode, ungray_gray]
  refine ⟨(State.chainOk_iff _).2 ?_, h.wrCode, h.rdCode, h.holdRoom, fun h1 h2 => ?_, h.sending, h.lastSample, h.resetHeld,
    h.stale⟩
  · simpa [hg] using hc.1
  · exact emptyC_iff.2 (hc.2 (emptyC_iff.1 (h.emission h1 h2)))

/-- P's view moves up by no more than its lag. -/
theorem State.Inv.seeRd (h : s.Inv) {m : Cursor} (hm : m.toNat ≤ (s.rd - s.rdP).toNat) : (s.setRdP (s.rdP + m)).Inv := by
  have hc := h.ch.seeRd hm
  have hg : ungray s.rdGray = s.rd := by rw [h.rdCode, ungray_gray]
  refine ⟨(State.chainOk_iff _).2 ?_, h.wrCode, h.rdCode, fun h1 => ?_, h.emission, h.sending, h.lastSample, h.resetHeld,
    h.stale⟩
  · simpa [hg] using hc
  · refine fullP_iff.2 (h.ch.room (fullP_iff.1 (h.holdRoom h1)) hc ?_)
    have := (cursor_move hm).2
    simp only [State.setRdP_rdP] at this ⊢
    omega

/-- The lag a view may move by is at least what `viewAdvance` gives. -/
theorem viewAdvance_le (lag : Cursor) (n : Nat) : (viewAdvance lag n).toNat ≤ lag.toNat := by
  by_cases h : lag = 0#5
  · simp [viewAdvance, h]
  · exact (viewAdvance_bounds h n).2

theorem State.Inv.nextWrC (h : s.Inv) : (s.setWrC s.nextWrC).Inv := h.seeWr (viewAdvance_le _ _)

theorem State.Inv.nextRdP (h : s.Inv) : (s.setRdP s.nextRdP).Inv := h.seeRd (viewAdvance_le _ _)

/-! Reset -/

theorem initial_inv (p : Params) (slots : Vector Block 16) : (State.initial p slots).Inv := by
  refine ⟨?_, ?_, ?_, fun h => ?_, fun h => ?_, fun h => ?_, fun h => ?_, fun h => ?_, fun h => ?_⟩
  · show (ungray 0#5 - 0#5).toNat + (0#5 - ungray 0#5).toNat + ((0#5 : Cursor) - 0#5).toNat + (ungray 0#5 - 0#5).toNat +
      (0#5 - ungray 0#5).toNat ≤ 16
    decide
  · show 0#5 = gray 0#5; decide
  · show 0#5 = gray 0#5; decide
  all_goals simp [State.initial] at h

theorem State.resetAll_inv (s : State) : s.resetAll.Inv := by
  have h := initial_inv s.params (freeSlots s.freeCount)
  exact ⟨h.chain, h.wrCode, h.rdCode, h.holdRoom, h.emission, h.sending, h.lastSample, h.resetHeld, h.stale⟩

/-! Level B -/

/-- P's synchroniser shifts in a cursor between its first stage and `rd`. -/
theorem State.Inv.pShift (h : s.Inv) {x : Cursor}
    (hx : (ungray x - ungray s.rdGrayS1).toNat + (s.rd - ungray x).toNat = (s.rd - ungray s.rdGrayS1).toNat) :
    (s.pShift x).Inv := by
  have hc := h.ch.shiftRd hx
  refine ⟨hc.le, h.wrCode, h.rdCode, fun h1 => ?_, h.emission, h.sending, h.lastSample, h.resetHeld, h.stale⟩
  refine fullP_iff.2 (h.ch.room (fullP_iff.1 (h.holdRoom h1)) hc ?_)
  have h2 : (s.rd - s.rdP).toNat = _ := h.ch.rdLag
  show (s.rd - ungray s.rdGrayS1).toNat ≤ (s.rd - s.rdP).toNat
  omega

/-- C's synchronisers shift in a cursor between the first stage and `wr`, and any carrier value. -/
theorem State.Inv.cShift (h : s.Inv) {x : Cursor} (v : Bool)
    (hx : (ungray x - ungray s.wrGrayS1).toNat + (s.wr - ungray x).toNat = (s.wr - ungray s.wrGrayS1).toNat) :
    (s.cShift x v).Inv := by
  have hc := h.ch.shiftWr hx
  refine ⟨hc.1.le, h.wrCode, h.rdCode, h.holdRoom, fun h1 h2 => ?_, h.sending, h.lastSample, h.resetHeld, fun hs => ?_⟩
  · exact emptyC_iff.2 (hc.2 (emptyC_iff.1 (h.emission h1 h2)))
  · simp only [State.cShift, Bool.and_eq_true, bne_iff_ne] at hs ⊢
    exact hs.2

end

end Sys2Proof.Machine
end

