-- ==== Sys2Proof/Laws/PerInstr.lean ====
section
/-! SUPPORT. Statements made of each operation as syntax, one lemma a constructor (LAWS.json). -/

namespace Sys2Proof.Laws

/-- Family `WordFields`: the word of an operation has the opid of R58 and the operand of R59 in their fields, and matches the row of the
opcode table that has its mnemonic. -/
def WordFields.Statement (i : Instr) : Prop :=
  opidOf (encode i) = i.opid ∧ argOf (encode i) = i.arg ∧ ∃ r ∈ opRows, r.mnemonic = i.mnemonic ∧ r.opid = i.opid

theorem WordFields.send (arg : SymCode) : WordFields.Statement (.send arg) :=
  ⟨opidOf_append _ _, argOf_append _ _, ⟨_, .head _, rfl, rfl⟩⟩

theorem WordFields.setc (v : Bool) : WordFields.Statement (.setc v) :=
  ⟨opidOf_append _ _, argOf_append _ _, ⟨"SETC", 0x2#4, 0x0400#13, 0x1FFE#13⟩, by decide, rfl, rfl⟩

theorem WordFields.isdr : WordFields.Statement .isdr :=
  ⟨opidOf_append _ _, argOf_append _ _, ⟨"ISDR", 0x3#4, 0x0600#13, 0x1FFF#13⟩, by decide, rfl, rfl⟩

theorem WordFields.build (sym : SymCode) : WordFields.Statement (.build sym) :=
  ⟨opidOf_append _ _, argOf_append _ _, ⟨"BUILD", 0x4#4, 0x0800#13, 0x1E00#13⟩, by decide, rfl, rfl⟩

theorem WordFields.fetch (sym : SymCode) : WordFields.Statement (.fetch sym) :=
  ⟨opidOf_append _ _, argOf_append _ _, ⟨"FETCH", 0x5#4, 0x0A00#13, 0x1E00#13⟩, by decide, rfl, rfl⟩

theorem WordFields.enq : WordFields.Statement .enq :=
  ⟨opidOf_append _ _, argOf_append _ _, ⟨"ENQ", 0x6#4, 0x0C00#13, 0x1FFF#13⟩, by decide, rfl, rfl⟩

theorem WordFields.peek : WordFields.Statement .peek :=
  ⟨opidOf_append _ _, argOf_append _ _, ⟨"PEEK", 0x7#4, 0x0E00#13, 0x1FFF#13⟩, by decide, rfl, rfl⟩

theorem WordFields.advr : WordFields.Statement .advr :=
  ⟨opidOf_append _ _, argOf_append _ _, ⟨"ADVR", 0x8#4, 0x1000#13, 0x1FFF#13⟩, by decide, rfl, rfl⟩

theorem WordFields.tick : WordFields.Statement .tick :=
  ⟨opidOf_append _ _, argOf_append _ _, ⟨"TICK", 0x9#4, 0x1200#13, 0x1FFF#13⟩, by decide, rfl, rfl⟩

theorem WordFields.reset : WordFields.Statement .reset :=
  ⟨opidOf_append _ _, argOf_append _ _, ⟨"RESET", 0xA#4, 0x1400#13, 0x1FFF#13⟩, by decide, rfl, rfl⟩

theorem WordFields.syncw : WordFields.Statement .syncw :=
  ⟨opidOf_append _ _, argOf_append _ _, ⟨"SYNCW", 0xB#4, 0x1600#13, 0x1FFF#13⟩, by decide, rfl, rfl⟩

theorem WordFields.syncr : WordFields.Statement .syncr :=
  ⟨opidOf_append _ _, argOf_append _ _, ⟨"SYNCR", 0xC#4, 0x1800#13, 0x1FFF#13⟩, by decide, rfl, rfl⟩

theorem WordFields.syncc : WordFields.Statement .syncc :=
  ⟨opidOf_append _ _, argOf_append _ _, ⟨"SYNCC", 0xD#4, 0x1A00#13, 0x1FFF#13⟩, by decide, rfl, rfl⟩

end Sys2Proof.Laws
end

