-- ==== Sys2Proof/Laws/Queue.lean ====
section
/-! SUPPORT. The queue as a list (spec/42_transfer_queue.md R96, R103): what each operation does to `contents`. -/

namespace Sys2Proof.Machine

/-- Slots fewer than 16 apart are different slots. -/
theorem slotIndex_add_inj {c : Cursor} {j k : Nat} (hj : j < 16) (hk : k < 16)
    (h : slotIndex (c + BitVec.ofNat 5 j) = slotIndex (c + BitVec.ofNat 5 k)) : j = k := by
  rw [slotIndex_eq_iff, BitVec.toNat_add, BitVec.toNat_add, BitVec.toNat_ofNat, BitVec.toNat_ofNat] at h
  omega

/-- `wr` lies the occupancy beyond `rd`. -/
theorem rd_add_occupancy (s : State) : s.rd + BitVec.ofNat 5 s.occupancy = s.wr := by
  unfold State.occupancy
  rw [BitVec.ofNat_toNat, BitVec.setWidth_eq]
  bv_omega

@[simp] theorem contents_length (s : State) : s.contents.length = s.occupancy := by simp [State.contents]

theorem contents_congr {s t : State} (h1 : t.slots = s.slots) (h2 : t.wr = s.wr) (h3 : t.rd = s.rd) :
    t.contents = s.contents := by
  unfold State.contents State.occupancy State.slotRead
  rw [h1, h2, h3]

/-- A block stored at `wr` with `wr` moved on is the last of the list. -/
theorem contents_enqueue {s : State} (h : s.occupancy < 16) (blk : Block) :
    (s.enqueue blk).contents = s.contents ++ [blk] := by
  have ho : (s.enqueue blk).occupancy = s.occupancy + 1 := cursor_succ_sub (x := s.rd) (y := s.wr) (Nat.lt_trans h (by decide))
  unfold State.contents
  rw [ho, List.range_succ, List.map_append]
  congr 1
  · apply List.map_congr_left
    intro k hk
    have hk' : k < s.occupancy := by simpa using hk
    show (s.enqueue blk).slotRead (s.rd + BitVec.ofNat 5 k) = _
    rw [slotRead_enqueue, if_neg]
    intro he
    rw [← rd_add_occupancy s] at he
    have := slotIndex_add_inj h (by omega) he
    omega
  · show [(s.enqueue blk).slotRead (s.rd + BitVec.ofNat 5 s.occupancy)] = [blk]
    rw [rd_add_occupancy, slotRead_enqueue, if_pos rfl]

/-- The head of the list is the slot at `rd`; moving `rd` on drops it. -/
theorem contents_advance {s : State} (h : 0 < s.occupancy) :
    s.contents = s.slotRead s.rd :: s.advance.contents := by
  have hne : s.wr ≠ s.rd := fun hh => by simp [State.occupancy, hh] at h
  have ho : s.advance.occupancy + 1 = s.occupancy := cursor_sub_succ hne
  unfold State.contents
  rw [← ho, List.range_succ_eq_map, List.map_cons, List.map_map]
  congr 1
  · simp
  · apply List.map_congr_left
    intro k hk
    show s.slotRead (s.rd + BitVec.ofNat 5 (k + 1)) = s.slotRead (s.rd + 1#5 + BitVec.ofNat 5 k)
    congr 1
    bv_omega

/-! The invariant's consequences for the list -/

/-- Where the views are in order, C seeing a block means there is one. -/
theorem occupancy_pos {s : State} (h : s.viewsOk) (he : s.emptyC = false) : 0 < s.occupancy := by
  have h1 : (s.wrC - s.rd).toNat ≠ 0 := fun hh => emptyC_iff.1 he (cursor_sub_zero.1 hh)
  have h2 : s.occupancy = _ := cursor_sub_trans (x := s.rd) (y := s.wrC) (z := s.wr) (by unfold State.viewsOk at h; omega)
  omega

/-- Where the views are in order, P seeing room means there is room. -/
theorem occupancy_lt {s : State} (h : s.viewsOk) (hf : s.fullP = false) : s.occupancy < 16 := by
  unfold State.viewsOk at h
  have h1 : s.occupancy = _ := cursor_sub_trans (x := s.rd) (y := s.wrC) (z := s.wr) (by omega)
  have h2 : (s.wr - s.rdP).toNat = _ := cursor_sub_trans (x := s.rdP) (y := s.rd) (z := s.wr)
    (by show _ + s.occupancy < 32; omega)
  have h3 : (s.wr - s.rdP).toNat ≠ 16 := fun hh => fullP_iff.1 hf (BitVec.eq_of_toNat_eq hh)
  change (s.wr - s.rdP).toNat = _ + s.occupancy at h2
  omega

end Sys2Proof.Machine
end

