-- ==== Sys2Proof/Laws/Step.lean ====
section
/-! SUPPORT. What a step does, by the turn it takes. -/

namespace Sys2Proof.Machine

theorem step_of_turns {s : State} {t : Turn} {rest : List Turn} (h : s.turns = t :: rest) :
    step s = runTurn t (s.withTurns rest) := by
  simp only [step, h]

theorem step_idle {s : State} (h : s.turns = []) : step s = .next s := by simp only [step, h]

/-- Putting a turn back where it was gives the state back. -/
theorem withTurns_back {s : State} {l : List Turn} (rest : List Turn) (h : s.turns = l) :
    (s.withTurns rest).withTurns l = s := by subst h; rfl

/-- An operation turn that nothing holds up performs its operation. -/
theorem performOp_exec {s : State} {who : Agent} {w : OpWord} {i : Instr} (n : Nat)
    (hd : decode w = .ok i) (hm : mayIssue who i = true) (hr : s.notYet who = false) (hb : s.cBusy who = false)
    (hf : s.mustFinish who i = false) (hx : s.mustCross i = false) : performOp who w n s = exec i (s.withChoice n) := by
  simp only [performOp, hd, hm, hr, hb, hf, hx]; rfl

/-- Only a TICK can have X's SYNCC before it. -/
theorem mustCross_of_ne {s : State} {i : Instr} (h : i ≠ .tick) : s.mustCross i = false := by simp [State.mustCross, h]

theorem mustCross_tick (s : State) : s.mustCross .tick = s.carrierDue := by simp [State.mustCross]

theorem carrierDue_iff {s : State} : s.carrierDue = true ↔ s.staleTick = true ∧ s.carrierC ≠ s.carrier := by
  simp [State.carrierDue]

/-- What an operation turn can do: it is refused, or takes step 2 of a SEND, or is X's SYNCC before a TICK, or performs its operation. -/
theorem performOp_cases (who : Agent) (w : OpWord) (n : Nat) (s : State) :
    (∃ r, performOp who w n s = .refused r) ∨
    (∃ i, decode w = .ok i ∧ who = .producer ∧ s.hold.isSome = true ∧ mayIssue who i = true ∧
      performOp who w n s = execEnq (s.withTurns (.op who w n :: s.turns))) ∨
    (decode w = .ok .tick ∧ who = .consumer ∧ s.staleTick = true ∧ s.carrierC ≠ s.carrier ∧
      performOp who w n s = .next ((s.withTurns (.op who w n :: s.turns)).syncCarrier.answer .quiet)) ∨
    (∃ i, decode w = .ok i ∧ mayIssue who i = true ∧ s.cBusy who = false ∧ s.mustFinish who i = false ∧
      s.mustCross i = false ∧ performOp who w n s = exec i (s.withChoice n)) := by
  unfold performOp
  cases hd : decode w with
  | error e => exact .inl ⟨_, rfl⟩
  | ok i =>
    dsimp only
    cases hm : mayIssue who i with
    | false => exact .inl ⟨_, rfl⟩
    | true =>
      cases hr : s.notYet who with
      | true => exact .inl ⟨_, rfl⟩
      | false =>
        cases hb : s.cBusy who with
        | true => exact .inl ⟨_, rfl⟩
        | false =>
          cases hf : s.mustFinish who i with
          | true =>
            simp only [State.mustFinish, Bool.and_eq_true, beq_iff_eq] at hf
            exact .inr (.inl ⟨i, rfl, hf.1.2, hf.1.1, hm, rfl⟩)
          | false =>
            cases hx : s.mustCross i with
            | true =>
              simp only [State.mustCross, State.carrierDue, Bool.and_eq_true, beq_iff_eq, bne_iff_ne] at hx
              obtain ⟨⟨h1, h2⟩, rfl⟩ := hx
              refine .inr (.inr (.inl ⟨rfl, by simpa [mayIssue] using hm, h1, h2, ?_⟩))
              exact if_neg h2
            | false => exact .inr (.inr (.inr ⟨i, rfl, hm, rfl, hf, hx, rfl⟩))

/-- P between commands acts at once. -/
@[simp] theorem finishFirst_of_none {t : Turn} {s : State} {k} (h : s.hold = none) : finishFirst t s k = k := by
  simp [finishFirst, h]

/-- P between the two steps of a SEND takes step 2, and the turn waits. -/
theorem finishFirst_of_some {t : Turn} {s : State} {blk : Block} {k} (h : s.hold = some blk) :
    finishFirst t s k = execEnq (s.withTurns (t :: s.turns)) := by
  simp [finishFirst, h]

/-- A word on an open, ready producer port is decoded at once. -/
theorem step_port {s : State} {w : OpWord} {rest : List Turn} (ht : s.turns = .port .producer w :: rest)
    (hr : s.ready = true) (hh : s.hold = none) : step s = portCommand w (s.withTurns rest) := by
  rw [step_of_turns ht]
  simp [runTurn, offerWord, hr, hh]

/-- The fetched word runs: `withFetchWord` makes the next step perform the operation its word names. -/
theorem step_withFetchWord {w : Nat} {i : Instr} (s : State) (nbits : Nat) (h : decodeTableWord nbits w = some i) :
    step (s.withFetchWord nbits w) = exec i (((s.readyFor (fetchWord w)).withTurns s.turns).withChoice s.choice) := by
  have hw : decode (fetchWord w) = .ok i := by
    unfold decodeTableWord at h
    unfold fetchWord
    cases hn : opWordOfNat w with
    | none => simp [hn] at h
    | some word =>
      simp only [hn] at h
      cases hd : decode word with
      | error e => simp [hd, Except.toOption] at h
      | ok j => simp [hd, Except.toOption] at h; simp [h, hd]
  have hown : mayIssue (ownerOf i) i = true := by
    cases i with
    | fetch sym => cases hb : byteOf sym <;> simp [mayIssue, ownerOf, hb]
    | _ => rfl
  have hturn : turnOfWord (fetchWord w) s.choice = .op (ownerOf i) (fetchWord w) s.choice := by
    simp only [turnOfWord, hw]
  rw [State.withFetchWord, hturn, step_of_turns (State.withTurns_turns _ _)]
  refine performOp_exec _ hw hown ?_ ?_ ?_ ?_
  · simp [State.notYet, State.readyFor, hw]
  · simp only [State.cBusy, State.readyFor, hw, State.withTurns_busy]
    cases s.busy <;> cases ownerOf i <;> rfl
  · have hh : (s.readyFor (fetchWord w)).hold = if s.mustFinish (ownerOf i) i then none else s.hold := by
      simp only [State.readyFor, hw]
    rw [State.mustFinish, State.withTurns_hold, State.withTurns_hold, hh]
    by_cases hc : s.mustFinish (ownerOf i) i = true
    · rw [if_pos hc]; rfl
    · rw [if_neg hc]; exact Bool.eq_false_iff.2 hc
  · have hx : (s.readyFor (fetchWord w)).carrierDue = (if s.mustCross i then s.syncCarrier else s).carrierDue := by
      simp only [State.readyFor, hw]; rfl
    by_cases hi : i = .tick
    · subst hi
      show ((s.readyFor (fetchWord w)).withTurns s.turns).mustCross .tick = false
      rw [mustCross_tick]
      show (s.readyFor (fetchWord w)).carrierDue = false
      rw [hx, mustCross_tick]
      cases hc : s.carrierDue
      · exact hc
      · rfl
    · exact mustCross_of_ne hi

end Sys2Proof.Machine
end

