-- ==== Sys2Proof/Laws/Waveform.lean ====
section
/-! SUPPORT. The samples of a waveform, one lemma a function: tone slots, the slot sequence of spec/41_sample_cache.md R83, byte waveforms,
the idle pattern, and negation. -/

namespace Sys2Proof.Machine

/-! Negation -/

/-- A sample of magnitude at most 30000 has an exact negation (R86). -/
theorem toInt_neg_of_bounds {x : Sample} (h : -30000 ≤ x.toInt) : (-x).toInt = -x.toInt := by
  rw [BitVec.toInt_neg]
  have h1 : x.toInt ≤ 32767 := by have := @BitVec.toInt_lt 16 x; omega
  rw [Int.bmod_eq_of_le] <;> omega

@[simp] theorem negList_negList (l : List Sample) : negList (negList l) = l := by
  induction l with
  | nil => rfl
  | cons x xs ih => simp [negList] at ih ⊢

@[simp] theorem negList_length (l : List Sample) : (negList l).length = l.length := by simp [negList]

@[simp] theorem negList_append (l m : List Sample) : negList (l ++ m) = negList l ++ negList m := by simp [negList]

@[simp] theorem negBlock_toList (blk : Block) : (negBlock blk).toList = negList blk.toList := rfl

/-- The sum of a negated sequence of small samples is the negation of its sum. -/
theorem sampleSum_neg {l : List Sample} (h : ∀ x ∈ l, -30000 ≤ x.toInt) : sampleSum (negList l) = -sampleSum l := by
  induction l with
  | nil => rfl
  | cons x xs ih =>
    have h1 := toInt_neg_of_bounds (h x (by simp))
    have h2 := ih (fun y hy => h y (by simp [hy]))
    simp only [sampleSum, negList, List.map_cons, List.sum_cons] at h2 ⊢
    rw [h1, h2]; omega

theorem sampleSum_append (l m : List Sample) : sampleSum (l ++ m) = sampleSum l + sampleSum m := by
  simp [sampleSum]

/-! Slots -/

theorem signedTone_getElem? (t : Tone) (sense : Bool) (k : Nat) (h : k < 10) :
    (signedTone t sense)[k]? = some (if sense then -t[k] else t[k]) := by
  cases sense <;> simp [signedTone, negList, h]

/-- Slot `j` of a sequence of slots is the tone its bit selects, negated iff the sense it began with is toggled by the zero-tones before
it to 1 (R83). -/
theorem emitSlots_getElem? (p : Params) (bits : List Bool) (sense : Bool) (j k : Nat) (hj : j < bits.length) (hk : k < 10) :
    (emitSlots p bits sense)[10 * j + k]? =
      some (let v := if bits[j] then p.tone0[k] else p.tone1[k]
            if sense ^^ ((bits.take j).count true % 2 == 1) then -v else v) := by
  induction bits generalizing sense j with
  | nil => simp at hj
  | cons b rest ih =>
    have hl : ∀ t : Tone, (signedTone t sense).length = 10 := fun t => signedTone_length t sense
    cases j with
    | zero =>
      cases b <;> simp only [emitSlots] <;>
        rw [List.getElem?_append_left (by rw [hl]; omega)] <;>
        simp [signedTone_getElem? _ _ _ hk]
    | succ j =>
      have hj' : j < rest.length := by simpa using hj
      have e : 10 * (j + 1) + k - 10 = 10 * j + k := by omega
      cases b <;> simp only [emitSlots] <;>
        rw [List.getElem?_append_right (by rw [hl]; omega), hl, e, ih _ j hj']
      · simp
      · have hc : ∀ n : Nat, ((n + 1) % 2 == 1) = !(n % 2 == 1) := fun n => by
          rcases Nat.mod_two_eq_zero_or_one n with h | h <;> simp [Nat.add_mod, h]
        simp [hc]

/-- The bits of the eleven slots after the start slot: the eight data bits and three stop slots (R82). -/
def slotBits (b : Byte) : List Bool := dataBits b ++ stopBits

theorem wave_toList (p : Params) (b : Byte) :
    (wave p b).toList = signedTone p.tone1 false ++ emitSlots p (slotBits b) false := by
  rw [show (wave p b).toList = rep 1 (signedTone p.tone1 false) ++ emitSlots p (slotBits b) false from rfl]
  simp [rep]

/-- The number of zero-tones in slots 1 to 10 has the parity of the byte. -/
theorem slotBits_count (b : Byte) : ((slotBits b).take 10).count true = popcount b + 2 := by
  have h : (slotBits b).take 10 = dataBits b ++ [true, true] := rfl
  rw [h, List.count_append]; rfl

/-- The last sample of a byte's waveform: the last of a zero-tone, negated iff the byte's number of 1 bits is odd (R87). -/
theorem wave_last (p : Params) (b : Byte) :
    (wave p b)[119] = if popcount b % 2 = 1 then -p.tone0[9] else p.tone0[9] := by
  have h : (wave p b).toList[119]? = some (wave p b)[119] := by simp
  have hl : (slotBits b).length = 11 := rfl
  have hb : (slotBits b)[10]'(by rw [hl]; decide) = true := rfl
  rw [wave_toList, List.getElem?_append_right (by rw [signedTone_length]; decide), signedTone_length,
    show (119 : Nat) - 10 = 10 * 10 + 9 from rfl, emitSlots_getElem? p _ _ 10 9 (by rw [hl]; decide) (by decide), hb,
    slotBits_count] at h
  have hc : (popcount b + 2) % 2 = popcount b % 2 := by omega
  simp only [if_true, Bool.false_xor, beq_iff_eq, hc, Option.some.injEq] at h
  exact h.symm

/-- Sample `k` of the idle-carrier pattern (R76). -/
theorem idleWf_getElem (p : Params) (k : Fin 120) :
    (idleWf p)[k] = if k.val / 10 % 2 = 0 then p.tone0[k.val % 10] else -p.tone0[k.val % 10] := by
  have h : ∀ n, ∀ j, j < 20 * n →
      (rep n (signedTone p.tone0 false ++ signedTone p.tone0 true))[j]? =
        some (if j / 10 % 2 = 0 then p.tone0[j % 10] else -p.tone0[j % 10]) := by
    intro n
    induction n with
    | zero => intro j hj; omega
    | succ n ih =>
      intro j hj
      have er : rep (n + 1) (signedTone p.tone0 false ++ signedTone p.tone0 true) =
          signedTone p.tone0 false ++ (signedTone p.tone0 true ++
            rep n (signedTone p.tone0 false ++ signedTone p.tone0 true)) := by
        simp [rep, List.replicate_succ]
      rw [er]
      by_cases h1 : j < 10
      · rw [List.getElem?_append_left (by rw [signedTone_length]; exact h1), signedTone_getElem? _ _ _ h1]
        have : j % 10 = j := Nat.mod_eq_of_lt h1
        simp [this, Nat.div_eq_of_lt h1]
      · rw [List.getElem?_append_right (by rw [signedTone_length]; omega), signedTone_length]
        by_cases h2 : j < 20
        · rw [List.getElem?_append_left (by rw [signedTone_length]; omega), signedTone_getElem? _ _ _ (by omega)]
          have e1 : j / 10 = 1 := by omega
          have e2 : j % 10 = j - 10 := by omega
          simp [e1, e2]
        · rw [List.getElem?_append_right (by rw [signedTone_length]; omega), signedTone_length, ih _ (by omega)]
          have e1 : (j - 10 - 10) / 10 % 2 = j / 10 % 2 := by omega
          have e2 : (j - 10 - 10) % 10 = j % 10 := by omega
          simp only [e1, e2]
  have h6 := h 6 k.val (by omega)
  have e : (idleWf p).toList[k.val]? = some (idleWf p)[k] := by simp
  rw [show (idleWf p).toList = rep 6 (signedTone p.tone0 false ++ signedTone p.tone0 true) from rfl, h6] at e
  exact (Option.some.inj e).symm

/-- Every sample of a byte's waveform is a tone sample or the negation of one. -/
theorem emitSlots_mem (p : Params) (bits : List Bool) (sense : Bool) {x : Sample} (hx : x ∈ emitSlots p bits sense) :
    ∃ y, (y ∈ p.tone0.toList ∨ y ∈ p.tone1.toList) ∧ (x = y ∨ x = -y) := by
  have h1 : ∀ (t : Tone) (v : Bool) (x : Sample), x ∈ signedTone t v → ∃ y ∈ t.toList, x = y ∨ x = -y := by
    intro t v x h
    cases v
    · exact ⟨x, h, .inl rfl⟩
    · obtain ⟨y, hy, e⟩ := List.mem_map.1 h
      exact ⟨y, hy, .inr e.symm⟩
  induction bits generalizing sense with
  | nil => simp [emitSlots] at hx
  | cons b rest ih =>
    cases b <;> simp only [emitSlots, List.mem_append] at hx <;> rcases hx with h | h
    · obtain ⟨y, hy, e⟩ := h1 _ _ _ h; exact ⟨y, .inr hy, e⟩
    · exact ih _ h
    · obtain ⟨y, hy, e⟩ := h1 _ _ _ h; exact ⟨y, .inl hy, e⟩
    · exact ih _ h

end Sys2Proof.Machine
end

