-- ==== Sys2Proof/Tests/Slice0.lean ====
section
/-! SUPPORT. Tests: ill-formed operands, words written out bit by bit, one step on small states with the values of
spec/95_test_vectors.md, and for every statement with hypotheses a concrete case that meets them. -/

namespace Sys2Proof.Tests

set_option Elab.async false

open Sys2Proof.Machine

/-! Helpers -/

/-- The state an outcome gives; the reset state where it gives none. -/
def nextOf : Host.Outcome State Fault Refusal → State
  | .next s => s
  | .fault _ => State.reset
  | .refused _ => State.reset

/-- The fingerprint of spec/95_test_vectors.md. -/
def fingerprint (blk : Block) : Nat := blk.toList.foldl (fun h x => (h * 31 + x.toNat) % 4294967296) 0

/-- The fingerprint of the block a state's last answer carries; 1 where it carries none. -/
def shown (s : State) : Nat :=
  match s.out with
  | .returned blk => fingerprint blk
  | .emitted blk _ => fingerprint blk
  | .record r => fingerprint r.a
  | .quiet => 1
  | .response _ => 1
  | .status _ => 1

/-- Operations one after another from a state. -/
def after (is : List Instr) (s : State) : State := is.foldl (fun t i => nextOf (exec i t)) s

/-- Whether an outcome is a next state. -/
def isNext : Host.Outcome State Fault Refusal → Bool
  | .next _ => true
  | .fault _ => false
  | .refused _ => false

theorem next_of {o : Host.Outcome State Fault Refusal} (h : isNext o = true) : o = .next (nextOf o) := by
  cases o <;> first | rfl | cases h

/-- A state with a request. -/
def asking (l : List Turn) : State := State.reset.withTurns l

/-- The state a number of steps later. -/
def stepped (n : Nat) (s : State) : State := nextOf (runSteps n s)

/-- A queue with `n` empty-looking blocks that both sides know of. -/
def filled (n : Nat) : State :=
  { State.reset with wr := BitVec.ofNat 5 n, wrGray := gray (BitVec.ofNat 5 n), wrGrayS1 := gray (BitVec.ofNat 5 n),
                     wrC := BitVec.ofNat 5 n }

/-- A SEND between its two steps, of a block of zeros. -/
def holding : State := { State.reset with hold := some silenceWf }

/-- Waveforms of the default ROM, from `lastSense` 0. -/
def blk41 : Block := (render standardParams (.byte 0x41#8)).a

/-! Well-formed operands (R59, R61): the ill-formed ones are refused -/

theorem test_wf_send_refuses_marker : Instr.wf (.send 0x100#9) = false ∧ Instr.wf (.send 0x0FF#9) = true := by decide
theorem test_wf_build_refuses_0x102 : Instr.wf (.build 0x102#9) = false ∧ Instr.wf (.build 0x101#9) = true := by decide
theorem test_wf_fetch_refuses_0x1FF : Instr.wf (.fetch 0x1FF#9) = false ∧ Instr.wf (.fetch 0x100#9) = true := by decide

/-! Words, written out from R59 (opid in the first four bits, operand in the last nine); values of V50 -/

theorem test_word_send : decode 0b0001001000001#13 = .ok (.send 0x41#9) ∧ encode (.send 0xFF#9) = 0x02FF#13 := by decide
theorem test_word_setc : decode 0b0010000000001#13 = .ok (.setc true) ∧ encode (.setc false) = 0x0400#13 := by decide
theorem test_word_isdr : decode 0b0011000000000#13 = .ok .isdr ∧ decode 0b0011000000001#13 = .error .reservedArg := by decide
theorem test_word_build : decode 0b0100001000001#13 = .ok (.build 0x41#9) := by decide
theorem test_word_fetch : decode 0b0101100000001#13 = .ok (.fetch 0x101#9) := by decide
theorem test_word_enq : decode 0b0110000000000#13 = .ok .enq := by decide
theorem test_word_peek : decode 0b0111000000000#13 = .ok .peek := by decide
theorem test_word_advr : decode 0b1000000000000#13 = .ok .advr := by decide
theorem test_word_tick : decode 0b1001000000000#13 = .ok .tick := by decide
theorem test_word_reset : decode 0b1010000000000#13 = .ok .reset := by decide
theorem test_word_syncw : decode 0b1011000000000#13 = .ok .syncw := by decide
theorem test_word_syncr : decode 0b1100000000000#13 = .ok .syncr := by decide
theorem test_word_syncc : decode 0b1101000000000#13 = .ok .syncc := by decide
theorem test_word_reserved : decode 0b0000000000000#13 = .error .reservedOpid ∧ decode 0b1110000000000#13 = .error .reservedOpid ∧
    decode 0b1111111111111#13 = .error .reservedOpid ∧ decode 0b0010000000010#13 = .error .reservedArg := by decide
theorem test_table_word : decodeTableWord 16 0x1200 = some .tick ∧ decodeTableWord 16 0x2000 = none := by decide

/-! One step, with the values of spec/95_test_vectors.md -/

/-- V1, V10: fingerprints of `0x41/A`, `0x41/B`, `0xFE/A` and the first sample of the data. -/
theorem test_build_v10 : fingerprint blk41 = 0x797FA550 ∧ fingerprint (render standardParams (.byte 0x41#8)).b = 0x9AC55AB0 ∧
    fingerprint (render standardParams (.byte 0xFE#8)).a = 0x92D7F780 ∧ (blk41)[11].toInt = 9271 := by decide +kernel
/-- V13: BUILD of `0x102` is BADSYM. -/
theorem test_build_v13 : (nextOf (exec (.build 0x102#9) State.reset)).out = .status .badSym := by decide +kernel
/-- V20: two FETCHes of `0x41`, the second of which returns variant B, and a FETCH of idle under `lastSense` 1. -/
theorem test_fetch_v20 : shown (after [.fetch 0x41#9] State.reset) = 0x797FA550 ∧
    shown (after [.fetch 0x41#9, .fetch 0x41#9] State.reset) = 0x9AC55AB0 ∧
    shown (after [.fetch 0x100#9, .fetch 0x101#9] State.reset) = 0x27FBB800 := by decide +kernel
/-- V21: FETCH of `0x1FF` leaves `lastSense` 1. -/
theorem test_fetch_v21 : (after [.fetch 0x41#9, .fetch 0x1FF#9] State.reset).lastSense = true := by decide +kernel
/-- V31: the second SEND holds variant B of `0x42` and leaves `lastSense` 0. -/
theorem test_send_v31 : ((after [.send 0x41#9, .enq, .send 0x42#9] State.reset).hold.map fingerprint) = some 0x870F4B30 ∧
    (after [.send 0x41#9, .enq, .send 0x42#9] State.reset).lastSense = false := by decide +kernel
/-- V32: SEND on a full queue answers 0x11. -/
theorem test_send_v32 : (nextOf (exec (.send 0x40#9) (filled 16))).out = .response 0x11#5 := by decide +kernel
/-- V32: the sixteenth ENQ answers 0x10; V30: from `wr = 31` it writes slot 15 and `wr` wraps to 0. -/
theorem test_enq_v30 : (nextOf (exec .enq { filled 15 with hold := some silenceWf })).out = .response 0x10#5 ∧
    (nextOf (exec .enq { State.reset with wr := 31#5, rdP := 31#5, hold := some blk41 })).wr = 0#5 ∧
    ((nextOf (exec .enq { State.reset with wr := 31#5, rdP := 31#5, hold := some blk41 })).slots[15]) = blk41 := by
  decide +kernel
/-- V33, V34: ISDR's bits at `wr`, `rd_p` = (3, 19), (0, 31), and with a lagging view. -/
theorem test_isdr_v33 : (nextOf (exec .isdr { State.reset with wr := 3#5, rdP := 19#5 })).out = .response 0x10#5 ∧
    (nextOf (exec .isdr { State.reset with wr := 0#5, rdP := 31#5 })).out = .response 0x00#5 ∧
    (nextOf (exec .isdr { State.reset with wr := 2#5, rd := 2#5, rdP := 1#5 })).out = .response 0x00#5 := by decide +kernel
/-- V35: PEEK with a lagging view, and once it has caught up. -/
theorem test_peek_v35 : (nextOf (exec .peek { filled 1 with wrC := 0#5 })).out = .status .empty ∧
    (nextOf (exec .peek (filled 1))).out = .returned silenceWf := by decide +kernel
/-- V36: ADVR on an empty queue leaves `rd` 5. -/
theorem test_advr_v36 : (nextOf (exec .advr { State.reset with wrC := 5#5, rd := 5#5 })).rd = 5#5 ∧
    (nextOf (exec .advr { State.reset with wrC := 0#5, rd := 31#5 })).rd = 0#5 := by decide +kernel
/-- V41, V42: the three states of the sequencer. -/
theorem test_tick_v42 : (nextOf (exec .tick State.reset)).lastSense = true ∧
    shown (nextOf (exec .tick { State.reset with carrier := true, carrierC := true, lastSense := true })) = 0x27FBB800 ∧
    (nextOf (exec .tick { filled 3 with rd := 2#5, carrier := true, carrierC := true })).seqState = .draining ∧
    (nextOf (exec .tick { filled 3 with rd := 2#5 })).rd = 3#5 := by decide +kernel
/-- V43: the first tick after `SETC 1` may emit silence; before the second X's SYNCC is forced, a step of its own, and that tick emits
idle-carrier (here in variant B, after one silence). -/
theorem test_setc_v43 : shown (after [.setc true, .tick] State.reset) = 0 ∧
    (stepped 3 (asking [.op .producer 0x0401#13 0, .op .consumer 0x1200#13 0, .op .consumer 0x1200#13 0])).carrierC = true ∧
    shown (stepped 4 (asking [.op .producer 0x0401#13 0, .op .consumer 0x1200#13 0, .op .consumer 0x1200#13 0])) = 0x27FBB800 := by
  decide +kernel
/-- R155: a RESET with a SEND half done empties `hold`. -/
theorem test_reset_drops_hold : (after [.send 0x41#9, .reset] State.reset).hold = none := by rfl
/-- R38, R39: a lag of 16 can be crossed at once. -/
theorem test_syncw_all : (nextOf (exec .syncw { filled 16 with wrC := 0#5, choice := 15 })).wrC = 16#5 := by decide +kernel
theorem test_syncr_one : (nextOf (exec .syncr { State.reset with wr := 2#5, wrC := 2#5, rd := 2#5 })).rdP = 1#5 := by decide +kernel
/-- V34: after SYNCR ISDR answers drained. -/
theorem test_syncr_v34 : (after [.syncr, .isdr] { State.reset with wr := 2#5, rd := 2#5, rdP := 1#5 }).out = .response 0x08#5 := by
  decide +kernel
theorem test_syncc : (after [.setc true, .syncc] State.reset).carrierC = true := by decide +kernel
/-- V51: words on the producer port from reset. -/
theorem test_port_v51 :
    ([0x0300#13, 0x03FF#13, 0x0401#13, 0x0402#13, 0x0600#13, 0x0601#13, 0x0000#13, 0x0C00#13].map (fun w =>
      (nextOf (step (State.reset.withTurns [.port .producer w]))).out)) =
    [0x0A#5, 0x0A#5, 0x08#5, 0x0B#5, 0x08#5, 0x0B#5, 0x0B#5, 0x0B#5].map Output.response := by decide +kernel
/-- V9: the first ten bytes of `0x41/A`. -/
theorem test_bytes_v9 : ((blockBytes blk41).take 10).map BitVec.toNat = [0x00, 0x00, 0x71, 0x22, 0xBA, 0x37, 0xBA, 0x37, 0x71, 0x22] := by
  decide +kernel
/-- V44: the Level B formula of the idle sample, both polarities. -/
theorem test_idle_v44 : (idleSample standardParams false 11).toInt = -9271 ∧ (idleSample standardParams false 119).toInt = -9271 ∧
    (idleSample standardParams true 1).toInt = -9271 ∧ (idleSample standardParams true 119).toInt = 9271 := by decide +kernel
/-- A word placed by `withFetchWord` runs as the first step after reset. -/
theorem test_fetch_word : (nextOf (step (State.reset.withFetchWord 16 0x1000))).out = .status .empty := by decide +kernel

/-! Witnesses: for every statement with hypotheses, a concrete case that meets them all, each clause apart -/

/-- The truncated ROM, the other plausible content, with the samples R73 prints (see N1 of 91_not_in_source.md, log 33). -/
def truncatedRom : Params :=
  { standardParams with
    tone0 := #v[0#16, 9270#16, 17633#16, 24270#16, 28531#16, 30000#16, 28531#16, 24270#16, 17633#16, 9270#16]
    tone1 := #v[0#16, 8816#16, 14265#16, 14265#16, 8816#16, 0#16, -8816#16, -14265#16, -14265#16, -8816#16] }

theorem witness_truncatedRom : ToneOk truncatedRom := by constructor <;> decide +kernel

/-- The samples R73 prints sum to 189408, so a byte with an even number of 1 bits sums to that. -/
theorem test_truncated_sum : sampleSum truncatedRom.tone0.toList = 189408 ∧
    sampleSum (render truncatedRom (.byte 0x41#8)).a.toList = 189408 ∧
    sampleSum (render truncatedRom (.byte 0x01#8)).a.toList = 0 := by decide +kernel

theorem asking_inv (l : List Turn) : (asking l).Inv := (initial_inv _ _).withTurns l

/-- A queue with `n` blocks keeps the invariant's chain. -/
theorem filled_inv_16 : (filled 16).Inv := by
  refine ⟨by unfold State.chainOk; decide +kernel, by decide +kernel, by decide +kernel, fun h => ?_, fun h => ?_, fun h => ?_,
    fun h => ?_, fun h => ?_, fun h => ?_⟩ <;> exact absurd h (by decide +kernel)

theorem filled_inv_1 : (filled 1).Inv := by
  refine ⟨by unfold State.chainOk; decide +kernel, by decide +kernel, by decide +kernel, fun h => ?_, fun h => ?_, fun h => ?_,
    fun h => ?_, fun h => ?_, fun h => ?_⟩ <;> exact absurd h (by decide +kernel)

theorem witness_StepKeepsInvariant :
    (∃ t, (asking [.op .producer 0x0241#13 0]).Inv ∧ step (asking [.op .producer 0x0241#13 0]) = .next t) ∧
    (∃ t, (asking [.cClk ⟨true, false⟩]).Inv ∧ step (asking [.cClk ⟨true, false⟩]) = .next t) :=
  ⟨⟨_, asking_inv _, rfl⟩, ⟨_, asking_inv _, rfl⟩⟩

theorem witness_InvariantGivesCursorCounts : (filled 16).Inv ∧ (filled 16).occupancy = 16 := ⟨filled_inv_16, by decide +kernel⟩

theorem witness_NoStepChangesRomOrCache : ∃ t, step (asking [.op .host 0x1400#13 0]) = .next t := ⟨_, rfl⟩

theorem witness_DecodeAndEncodeAgree : decode 0x03FF#13 = .ok (.send 0x1FF#9) := by decide

theorem witness_DecoderFollowsOpcodeTable :
    (∃ r, r ∈ opRows ∧ r.matches 0x1A00#13 = true) ∧ decode 0x1A00#13 = .ok .syncc ∧ decode 0x1FFF#13 = .error .reservedOpid :=
  ⟨⟨⟨"SYNCC", 0xD#4, 0x1A00#13, 0x1FFF#13⟩, by decide, by decide⟩, by decide, by decide⟩

theorem witness_StepRunsTheDecodedOperation :
    ((asking [.op .producer 0x0401#13 0]).turns = [.op .producer 0x0401#13 0] ∧ decode 0x0401#13 = .ok (.setc true) ∧
      mayIssue .producer (.setc true) = true ∧ (asking [.op .producer 0x0401#13 0]).ready = true ∧
      (asking [.op .producer 0x0401#13 0]).hold = none) ∧
    (decode 0x1200#13 = .ok .tick ∧ mayIssue .consumer .tick = true ∧ (asking [.op .consumer 0x1200#13 0]).busy = false) ∧
    (decode 0x0C00#13 = .ok .enq ∧ mayIssue .producer .enq = true ∧ holding.hold.isSome = true) ∧
    (decode 0x1400#13 = .ok .reset ∧ mayIssue .host .reset = true) ∧
    ((asking [.op .consumer 0x1200#13 0]).staleTick = false ∧
      ({ asking [.op .consumer 0x1200#13 0] with staleTick := true } : State).carrierC = State.reset.carrier) ∧
    (decode 0x1600#13 = .ok .syncw ∧ mayIssue .crossing .syncw = true ∧ ({ State.reset with ready := false } : State).ready = false) := by
  decide +kernel

/-- The SYNCC of X due before a TICK: a tick has read the old carrier. -/
theorem witness_StepRunsTheDecodedOperation_due :
    let s := { asking [.op .consumer 0x1200#13 0] with carrier := true, staleTick := true }
    s.turns = [.op .consumer 0x1200#13 0] ∧ decode 0x1200#13 = .ok .tick ∧ s.ready = true ∧ s.busy = false ∧ s.staleTick = true ∧
    s.carrierC ≠ s.carrier := by decide +kernel

theorem witness_PortRunsItsCommandsOrAnswersBadCmd :
    (asking [.port .producer 0x0241#13]).ready = true ∧ (asking [.port .producer 0x0241#13]).hold = none ∧
    (asking [.port .producer 0x0241#13]).turns = [.port .producer 0x0241#13] ∧
    decode 0x0241#13 = .ok (.send 0x41#9) ∧ decode 0x0400#13 = .ok (.setc false) ∧ decode 0x0600#13 = .ok .isdr ∧
    decode 0x0C00#13 = .ok .enq ∧ decode 0x0601#13 = .error .reservedArg := by decide +kernel

/-- The edge that accepts a word: a SEND with room, a marker, a SEND on a full queue, and an edge without a word. -/
theorem witness_PortRunsItsCommandsOrAnswersBadCmd_edge :
    (asking [.pClk ⟨true, 0x0241#13⟩]).turns = [.pClk ⟨true, 0x0241#13⟩] ∧ (asking [.pClk ⟨true, 0x0241#13⟩]).ready = true ∧
    (asking [.pClk ⟨true, 0x0241#13⟩]).rstN = true ∧ (asking [.pClk ⟨true, 0x0241#13⟩]).hold = none ∧
    (asking [.pClk ⟨true, 0x0241#13⟩]).fullGray = false ∧ (0x041#9)[8] = false ∧
    (decode 0x0300#13 = .ok (.send 0x100#9) ∧ (0x100#9)[8] = true) ∧ ((filled 16).fullGray = true ∧ (filled 16).rstN = true) ∧
    (asking [.pClk ⟨false, 0#13⟩]).turns = [.pClk ⟨false, 0#13⟩] := by decide +kernel

/-- R138: `SEND 0x141` on a full queue, `SEND 0x0FF` on a full queue, a reserved and an internal word on a full queue. -/
theorem witness_ErrorPriorityOnThePort :
    (filled 16).ready = true ∧ (filled 16).hold = none ∧ (filled 16).fullP = true ∧
    (decode 0x0341#13 = .ok (.send 0x141#9) ∧ (0x141#9)[8] = true) ∧ (decode 0x02FF#13 = .ok (.send 0x0FF#9) ∧ (0x0FF#9)[8] = false) ∧
    decode 0x0000#13 = .error .reservedOpid ∧ (decode 0x1200#13 = .ok .tick ∧ isPortOp .tick = false) := by decide +kernel

theorem witness_ErrorsChangeNothing :
    (State.reset.hold = none ∧ (0x100#9)[8] = true) ∧ ((filled 16).hold = none ∧ (filled 16).fullP = true ∧ (0x0FF#9)[8] = false) ∧
    0x102 ≤ (0x102#9).toNat ∧ 0x102 ≤ (0x1FF#9).toNat ∧
    ({ filled 16 with hold := some silenceWf } : State).fullP = true ∧ State.reset.emptyC = true ∧
    (decode 0x0402#13 = .error .reservedArg ∧ (asking [.port .producer 0x0402#13]).turns = [.port .producer 0x0402#13]) := by
  decide +kernel

theorem witness_ResponseWordDescribesTheStateAfter :
    (∃ t, exec (.send 0x100#9) State.reset = .next t ∧ t.out = .response 0x0A#5) ∧
    (∃ t, exec .enq holding = .next t ∧ t.out = .response 0x00#5 ∧ holding.hold ≠ none) :=
  ⟨⟨nextOf (exec (.send 0x100#9) State.reset), rfl, by decide +kernel⟩,
   ⟨nextOf (exec .enq holding), rfl, by decide +kernel, by decide +kernel⟩⟩

theorem witness_HeldBlockIsEnqueuedFirst :
    holding.hold = some silenceWf ∧ holding.ready = true ∧ decode 0x0600#13 = .ok .isdr ∧ mayIssue .producer .isdr = true ∧
    decode 0x0C00#13 = .ok .enq ∧ (holding.withTurns [.togc]).turns = [.togc] ∧
    (holding.withTurns [.sendBytes .producer []]).turns = [.sendBytes .producer []] ∧
    (holding.withTurns [.sendBytesStep]).turns = [.sendBytesStep] ∧
    (holding.withTurns [.port .producer 0x0600#13]).turns = [.port .producer 0x0600#13] ∧
    (holding.withTurns [.op .producer 0x0600#13 0]).turns = [.op .producer 0x0600#13 0] := by decide +kernel

theorem witness_MeaninglessRunsAreRefused :
    (asking [.op .other 0x1200#13 0]).turns = [.op .other 0x1200#13 0] ∧ decode 0x1200#13 = .ok .tick ∧
    decode 0x0C00#13 = .ok .enq ∧ decode 0x0600#13 = .ok .isdr ∧ decode 0x0401#13 = .ok (.setc true) ∧
    decode 0x0241#13 = .ok (.send 0x41#9) ∧ decode 0x0E00#13 = .ok .peek ∧ decode 0x1000#13 = .ok .advr ∧
    ({ State.reset with busy := true } : State).ready = true ∧ ({ State.reset with busy := true } : State).busy = true ∧
    ({ State.reset with ready := false } : State).ready = false ∧ Agent.consumer ≠ Agent.producer := by decide +kernel

/-- SETC, ISDR, SEND and ENQ: an open port, a byte operand at both ends of its range, room for one block and no more. -/
theorem witness_port_operations :
    State.reset.hold = none ∧ (filled 15).hold = none ∧ (0x000#9)[8] = false ∧ (0x0FF#9)[8] = false ∧ (filled 15).fullP = false ∧
    ({ filled 15 with hold := some silenceWf } : State).fullP = false := by decide +kernel

/-- PEEK, ADVR, TICK: C sees a block and sees none; both carriers; and the cursor wraps. -/
theorem witness_consumer_operations :
    (filled 1).wrC ≠ (filled 1).rd ∧ State.reset.wrC = State.reset.rd ∧ State.reset.carrierC = false ∧
    ({ State.reset with carrierC := true } : State).carrierC = true ∧
    ({ State.reset with rd := 31#5 } : State).wrC ≠ ({ State.reset with rd := 31#5 } : State).rd := by decide +kernel

theorem witness_TickLeavesTheRestAlone : ∃ t, exec .tick (filled 1) = .next t := ⟨_, rfl⟩

/-- SYNCW and SYNCR: a view that lags by 16, moved by 1 and by 16, and one that lags across the wrap. -/
theorem witness_crossing_operations :
    ({ filled 16 with wrC := 0#5 } : State).wrC ≠ (filled 16).wr ∧ 0 < (1#5).toNat ∧
    (16#5).toNat ≤ ((filled 16).wr - 0#5).toNat ∧ ({ filled 16 with rd := 16#5 } : State).rdP ≠ 16#5 ∧
    (16#5).toNat ≤ ((16#5 : Cursor) - (filled 16).rdP).toNat ∧ (2#5).toNat ≤ ((1#5 : Cursor) - 31#5).toNat := by decide +kernel

/-- Two ticks after a SETC, another step of X between them. -/
def twoTicks : List Turn := [.op .consumer 0x1200#13 0, .op .crossing 0x1600#13 0, .op .consumer 0x1200#13 0]

/-- SYNCC, and the two ticks after a SETC of either value, C seeing no block at the second: the first reads the old carrier, then come
SYNCW and the SYNCC that is due. -/
theorem witness_CarrierIsStaleForAtMostOneTick :
    ({ State.reset with carrier := true } : State).carrierC ≠ true ∧ (∀ t ∈ twoTicks, t.keepsCarrier = true) ∧
    ∀ v, ∃ s1 b c d, exec (.setc v) { asking twoTicks with carrier := !v, carrierC := !v } = .next s1 ∧ s1.turns = twoTicks ∧
      runSteps 0 s1 = .next s1 ∧ isTickStep s1 b ∧ runSteps 2 b = .next c ∧ isTickStep c d ∧ s1.carrierC ≠ v ∧ c.wrC = c.rd := by
  refine ⟨by decide, by decide +kernel, fun v => ?_⟩
  cases v <;>
    exact ⟨_, _, _, _, rfl, rfl, rfl, ⟨0, rfl, next_of (by decide +kernel)⟩, next_of (by decide +kernel),
      ⟨0, by decide +kernel, next_of (by decide +kernel)⟩, by decide +kernel, by decide +kernel⟩

/-- A SEND, a crossing step, a fallback tick, the SEND's ENQ, an answer BADSYM and a FETCH: three FETCHes, none of them a RESET's; and a
SEND performed with a block in `hold`, which is refused and left out. -/
theorem witness_LastSenseIsAFoldOfFlags :
    (∀ i ∈ [Instr.send 0x41#9, .syncr, .tick, .enq, .send 0x100#9, .fetch 0x101#9], i ≠ .reset) ∧
    ((runFetching [.send 0x41#9, .syncr, .tick, .enq, .send 0x100#9, .fetch 0x101#9] State.reset).1.map Prod.fst) =
      [.byte 0x41#8, .silence, .idle] ∧
    ((runFetching [.send 0x41#9, .send 0x42#9] State.reset).1.map Prod.fst) = [.byte 0x41#8] := by decide +kernel

/-- The statements about every ROM with the properties of R74: FixedPatternsAreAsStated, IdleRecordAndFetch, VariantsAreExactNegations,
ContinuityFlagIsEvenParity, ByteIsRecoverableFromItsBlock, WaveformSumsAndSlotStarts, and TICK's idle row. -/
theorem witness_every_rom : ∃ s : State, ToneOk s.params ∧ s.params ≠ standardParams :=
  ⟨State.initial truncatedRom (Vector.replicate 16 silenceWf), witness_truncatedRom, by decide +kernel⟩

/-- R93: a block that ends positive (`0x41/A`) and one that ends negative (`0x01/A`). -/
theorem witness_ConsecutiveFetchesAreContinuous :
    State.reset.params = standardParams ∧ 0 < ((State.reset.fetch (.byte 0x41#8)).1)[119].toInt ∧
    ((State.reset.fetch (.byte 0x01#8)).1)[119].toInt < 0 := by decide +kernel

/-- Views in order at the ends of the range: nothing queued, sixteen queued, sixteen outstanding with none left, all across the wrap. -/
theorem witness_viewsOk :
    State.reset.viewsOk ∧ (filled 16).viewsOk ∧ ({ filled 16 with rd := 16#5 } : State).viewsOk ∧
    ({ State.reset with rdP := 31#5, rd := 31#5, wrC := 31#5, wr := 0#5 } : State).viewsOk ∧
    State.reset.drainedP = true ∧ (filled 15).fullP = false ∧ (filled 15).viewsOk ∧ (filled 16).emptyC = false ∧
    (filled 16).rdP = (filled 16).rd ∧ (filled 16).wrC = (filled 16).wr := by unfold State.viewsOk; decide +kernel

/-- A fair run in which both cursor views and the carrier's lag at first: X acts three times, then nobody acts. -/
def lagging : State := { filled 2 with wrC := 1#5, rd := 1#5, rdGray := gray 1#5, carrier := true }

def catchUp : Nat → List Turn
  | 0 => [.op .crossing 0x1600#13 0]
  | 1 => [.op .crossing 0x1800#13 0]
  | 2 => [.op .crossing 0x1A00#13 0]
  | _ + 3 => []

def caughtUp : Nat → State
  | 0 => lagging
  | n + 1 => nextOf (step ((caughtUp n).withTurns (catchUp n)))

theorem caughtUp_next (n : Nat) : step ((caughtUp n).withTurns (catchUp n)) = .next (caughtUp (n + 1)) := by
  match n with
  | 0 => rfl
  | 1 => rfl
  | 2 => rfl
  | k + 3 => rfl

def fairRun : Run := ⟨caughtUp, catchUp, caughtUp_next⟩

/-- From the third step on nothing changes. -/
theorem caughtUp_rest (n : Nat) : caughtUp (n + 4) = (caughtUp 3).withTurns [] := by
  induction n with
  | zero => rfl
  | succ n ih =>
    show nextOf (step ((caughtUp (n + 4)).withTurns [])) = _
    rw [ih]; rfl

theorem witness_lag_ends :
    (fairRun.state 0).Inv ∧ fairRun.fair ∧ fairRun.settled State.wr 0 ∧ fairRun.settled State.rd 0 ∧ fairRun.settled State.carrier 0 ∧
    (fairRun.state 0).wrC ≠ (fairRun.state 0).wr ∧ (fairRun.state 0).rdP ≠ (fairRun.state 0).rd ∧
    (fairRun.state 0).carrierC ≠ (fairRun.state 0).carrier := by
  have later : ∀ n, 4 ≤ n → caughtUp n = (caughtUp 3).withTurns [] := fun n hn => by
    obtain ⟨k, rfl⟩ := Nat.exists_eq_add_of_le' hn; exact caughtUp_rest k
  have keeps : ∀ {α : Type} (f g : State → α), f ((caughtUp 3).withTurns []) = g ((caughtUp 3).withTurns []) →
      fairRun.keepsUp f g := fun f g h n =>
    ⟨n + 4, by omega, .inl (by show f (caughtUp (n + 4)) = g (caughtUp (n + 4)); rw [caughtUp_rest]; exact h)⟩
  have still : ∀ {α : Type} (f : State → α), f (caughtUp 1) = f lagging → f (caughtUp 2) = f lagging → f (caughtUp 3) = f lagging →
      f ((caughtUp 3).withTurns []) = f lagging → fairRun.settled f 0 := fun f h1 h2 h3 h4 m _ => by
    show f (caughtUp m) = f lagging
    match m with
    | 0 => rfl
    | 1 => exact h1
    | 2 => exact h2
    | 3 => exact h3
    | k + 4 => rw [caughtUp_rest]; exact h4
  refine ⟨?_, ⟨keeps _ _ (by decide +kernel), keeps _ _ (by decide +kernel), keeps _ _ (by decide +kernel)⟩,
    still _ (by decide +kernel) (by decide +kernel) (by decide +kernel) (by decide +kernel),
    still _ (by decide +kernel) (by decide +kernel) (by decide +kernel) (by decide +kernel),
    still _ (by decide +kernel) (by decide +kernel) (by decide +kernel) (by decide +kernel),
    by decide +kernel, by decide +kernel, by decide +kernel⟩
  show lagging.Inv
  refine ⟨by unfold State.chainOk; decide +kernel, by decide +kernel, by decide +kernel, fun h => ?_, fun h => ?_, fun h => ?_,
    fun h => ?_, fun h => ?_, fun h => ?_⟩ <;> exact absurd h (by decide +kernel)

theorem witness_QueueIsAFifoList :
    ((filled 15).viewsOk ∧ (filled 15).fullP = false ∧ (filled 15).emptyC = false ∧ (filled 16).viewsOk ∧ (filled 16).fullP = true ∧
      State.reset.viewsOk ∧ State.reset.emptyC = true) ∧
    (∃ t, exec .enq (filled 15) = .next t) ∧ (∃ t, exec .peek (filled 15) = .next t) ∧ (∃ t, exec .advr (filled 15) = .next t) ∧
    (∃ t, exec .tick (filled 15) = .next t) ∧ (∃ t, exec .reset (filled 15) = .next t) ∧ (∃ t, exec .enq (filled 16) = .next t) ∧
    (∃ t, exec .tick State.reset = .next t) :=
  ⟨by unfold State.viewsOk; decide +kernel, ⟨_, rfl⟩, ⟨_, rfl⟩, ⟨_, rfl⟩, ⟨_, rfl⟩, ⟨_, rfl⟩, ⟨_, rfl⟩, ⟨_, rfl⟩⟩

theorem witness_SixteenBlocksComeOutInOrder :
    State.reset.hold = none ∧ State.reset.wr = State.reset.rd ∧ State.reset.rdP = State.reset.rd ∧
    State.reset.wrC = State.reset.wr ∧ (List.replicate 16 blk41).length ≤ 16 := by decide +kernel

theorem witness_WrittenAndReadSlotsAreDisjoint :
    (filled 15).viewsOk ∧ (filled 15).fullP = false ∧ 14 < ((filled 15).wrC - (filled 15).rd).toNat := by
  unfold State.viewsOk; decide +kernel

/-- Two different states that differ only in a slot no queue occupies. -/
theorem witness_UnoccupiedSlotsNeverMatter :
    (filled 1).viewsOk ∧ deadSlotsApart (filled 1) { filled 1 with slots := (filled 1).slots.set 15 blk41 } ∧
    (filled 1).slots ≠ (filled 1).slots.set 15 blk41 ∧ (∃ t, exec .tick (filled 1) = .next t) :=
  ⟨by unfold State.viewsOk; decide +kernel, ⟨rfl, by decide +kernel⟩, by decide +kernel, ⟨_, rfl⟩⟩

/-- A queue of one silence block with another in `hold`, about to be drained by a TICK or joined by an ENQ. -/
theorem witness_EmittedBlocksAreCachedVariants :
    ({ filled 1 with hold := some silenceWf } : State).viewsOk ∧ ({ filled 1 with hold := some silenceWf } : State).allCached ∧
    (∃ t, exec .tick { filled 1 with hold := some silenceWf } = .next t ∧ t.out = .emitted silenceWf true) ∧
    (∃ t, exec .enq { filled 1 with hold := some silenceWf } = .next t) := by
  have hc : isCached standardParams silenceWf := ⟨.silence, .inl rfl⟩
  refine ⟨by unfold State.viewsOk; decide +kernel, ⟨?_, ?_⟩, ⟨nextOf (exec .tick { filled 1 with hold := some silenceWf }), rfl, by decide +kernel⟩,
    ⟨_, rfl⟩⟩
  · have hl : ({ filled 1 with hold := some silenceWf } : State).contents = [silenceWf] := by decide +kernel
    intro blk hb
    rw [hl, List.mem_singleton] at hb
    exact hb ▸ hc
  · intro blk hb
    exact Option.some.inj hb ▸ hc

/-- A SEND with a tick, both crossing steps and a consumer's PEEK between its steps. -/
theorem witness_SendEndsWhateverHappensBetween :
    (filled 15).viewsOk ∧ (filled 15).hold = none ∧ (0x0FF#9)[8] = false ∧ (filled 15).fullP = false ∧
    (∀ j ∈ [Instr.tick, .syncw, .syncr, .peek], besideProducer j = true) ∧
    ∃ s1 s2, exec (.send 0x0FF#9) (filled 15) = .next s1 ∧ runOps [.tick, .syncw, .syncr, .peek] s1 = .next s2 :=
  ⟨by unfold State.viewsOk; decide +kernel, by decide +kernel, by decide, by decide +kernel, by decide,
    nextOf (exec (.send 0x0FF#9) (filled 15)), nextOf (runOps [.tick, .syncw, .syncr, .peek] (nextOf (exec (.send 0x0FF#9) (filled 15)))), rfl, rfl⟩

theorem witness_EachElementHasItsWriters : ∃ t, exec .syncw { filled 1 with wrC := 0#5 } = .next t ∧ Instr.syncw ≠ .reset :=
  ⟨_, rfl, by decide⟩

theorem witness_AgentsWriteOnlyTheirRow :
    (∃ t, step (asking [.op .producer 0x0241#13 0]) = .next t) ∧ (∃ t, step (asking [.op .consumer 0x1200#13 0]) = .next t) ∧
    (∃ t, step (asking [.op .crossing 0x1A00#13 0]) = .next t) ∧
    (∃ t, step (asking [.op .consumer 0x1200#13 0]) = .next t ∧ t.turns = []) ∧
    (∃ t, step { asking [.op .consumer 0x1200#13 0] with carrier := true, staleTick := true } = .next t ∧ t.turns ≠ []) :=
  ⟨⟨_, rfl⟩, ⟨_, rfl⟩, ⟨_, rfl⟩, ⟨_, rfl, rfl⟩, ⟨_, rfl, List.cons_ne_nil _ _⟩⟩

/-- P4: with the carrier seen on. -/
theorem witness_FallbackTickInThePendingWindow :
    ∃ s s1 s2 u1 u2 : State, s.hold = none ∧ s.fullP = false ∧ (0x41#9)[8] = false ∧ s.emptyC = true ∧
      exec (.send 0x41#9) s = .next s1 ∧ exec .tick s1 = .next s2 ∧ exec .tick s = .next u1 ∧ exec (.send 0x41#9) u1 = .next u2 ∧
      s.carrierC = true := by
  refine ⟨{ State.reset with carrier := true, carrierC := true }, _, _, _, _, rfl, by decide +kernel, by decide, by decide +kernel,
    rfl, rfl, rfl, rfl, by decide +kernel⟩

theorem witness_DrainingTickAndSendCommute :
    (filled 15).viewsOk ∧ (filled 15).emptyC = false ∧
    (∃ s1 s2 u1 u2, exec (.send 0x41#9) (filled 15) = .next s1 ∧ exec .tick s1 = .next s2 ∧ exec .tick (filled 15) = .next u1 ∧
      exec (.send 0x41#9) u1 = .next u2) ∧
    (∃ s1 s2 u1 u2, exec .enq (filled 15) = .next s1 ∧ exec .tick s1 = .next s2 ∧ exec .tick (filled 15) = .next u1 ∧
      exec .enq u1 = .next u2) :=
  ⟨by unfold State.viewsOk; decide +kernel, by decide +kernel, ⟨_, _, _, _, rfl, rfl, rfl, rfl⟩, ⟨_, _, _, _, rfl, rfl, rfl, rfl⟩⟩

theorem witness_SilentTicksToggleThePhase :
    State.reset.wrC = State.reset.rd ∧ State.reset.carrier = false ∧ State.reset.carrierC = false := by decide +kernel

/-- SEND_BYTES: its start, the wait not drained and drained, with bytes left and without, and the next SEND with room and without. -/
theorem witness_BatchSendsItsBytesInOrder :
    (asking [.sendBytes .producer []]).turns = [.sendBytes .producer []] ∧ (asking []).ready = true ∧ (asking []).hold = none ∧
    ({ filled 1 with turns := [.sendBytesStep], batch := some ⟨.waitDrain, []⟩ } : State).wr ≠ (filled 1).rdP ∧
    (filled 1).ready = true ∧ (filled 1).hold = none ∧ State.reset.wr = State.reset.rdP ∧
    ({ asking [.sendBytesStep] with batch := some ⟨.waitDrain, []⟩ } : State).batch = some ⟨.waitDrain, []⟩ ∧
    ({ asking [.sendBytesStep] with batch := some ⟨.waitDrain, [0x41#8]⟩ } : State).batch = some ⟨.waitDrain, [0x41#8]⟩ ∧
    ({ asking [.sendBytesStep] with batch := some ⟨.send, [0x41#8]⟩ } : State).turns = [.sendBytesStep] ∧
    ({ asking [.sendBytesStep] with batch := some ⟨.send, [0x41#8]⟩ } : State).fullP = false ∧
    ({ filled 16 with turns := [.sendBytesStep], batch := some ⟨.send, [0x41#8]⟩ } : State).fullP = true ∧
    (filled 16).ready = true ∧ (filled 16).hold = none ∧ (asking [.togc]).turns = [.togc] := by decide +kernel

/-- DEQ on a queue with a block and on an empty one. -/
theorem witness_BatchSendsItsBytesInOrder_deq :
    ((filled 1).withTurns [.deq]).turns = [.deq] ∧ (filled 1).ready = true ∧ (filled 1).busy = false ∧ (filled 1).wrC ≠ (filled 1).rd ∧
    (asking [.deq]).busy = false ∧ (asking [.deq]).wrC = (asking [.deq]).rd := by decide +kernel

/-- SEND_BYTES `0x41 0x42` (R124's example): ISDR, SEND, ENQ, SEND, ENQ, and the batch is done with both blocks queued. -/
theorem test_send_bytes_example :
    let go := fun s => nextOf (step (s.withTurns [.sendBytesStep]))
    let s := go (go (go (go (go (nextOf (step (State.reset.withTurns [.sendBytes .producer [0x41#8, 0x42#8]])))))))
    s.wr = 2#5 ∧ s.batch = none ∧ s.lastSense = false ∧ s.hold = none := by decide +kernel

theorem witness_GrayTestsAreTheCursorTests : (filled 16).Inv ∧ (filled 16).fullGray = true := ⟨filled_inv_16, by decide +kernel⟩

theorem witness_ClockedSendIsTheEnq :
    holding.hold = some silenceWf ∧ holding.sendIdx = 0 ∧ holding.ready = true ∧ holding.rstN = true ∧
    (List.replicate 121 ((⟨true, 0x0600#13⟩, 0#5) : PPins × Cursor)).length = 121 := by decide +kernel

theorem witness_ClockedTickEmitsTheSameBlock :
    (filled 1).Inv ∧ (filled 1).ready = true ∧ (filled 1).rstN = true ∧ (filled 1).busy = false ∧
    (∃ s0, cEdge ⟨true, false⟩ 1#5 false (filled 1) = .next s0) ∧
    (List.replicate 120 ((0#5, false) : Cursor × Bool)).length = (119 : Fin 120).val + 1 ∧
    (List.replicate 121 ((0#5, false) : Cursor × Bool)).length = 121 :=
  ⟨filled_inv_1, rfl, rfl, rfl, ⟨_, rfl⟩, by decide +kernel, by decide +kernel⟩

theorem witness_ResetPinHoldsTheMachine :
    (asking [.resetPin false]).turns = [.resetPin false] ∧ (asking [.resetPin true]).turns = [.resetPin true] ∧
    (asking [.initDone]).turns = [.initDone] ∧
    ({ asking [.pClk ⟨false, 0#13⟩] with rstN := false } : State).turns = [.pClk ⟨false, 0#13⟩] ∧
    ({ asking [.cClk ⟨false, false⟩] with rstN := false } : State).rstN = false := by decide +kernel

theorem witness_TwoEdgesCarryACursorAcross :
    (asking [.pClk ⟨false, 0#13⟩, .pClk ⟨false, 0#13⟩]).Inv ∧ (asking [.cClk ⟨false, false⟩, .cClk ⟨false, true⟩]).Inv ∧
    State.reset.rstN = true ∧ State.reset.ready = true := ⟨asking_inv _, asking_inv _, rfl, rfl⟩

/-- An edge of both clocks at which both sides FETCH, the byte `0x41` and silence, in either order: the side that comes second finds
`lastSense` toggled. -/
def bothFetch (pFirst : Bool) : State := asking [.bothClk ⟨true, 0x0241#13⟩ ⟨true, false⟩ ⟨pFirst, true, true, true⟩]

theorem witness_TwoEdgesCarryACursorAcross_both (pFirst : Bool) :
    (bothFetch pFirst).Inv ∧ (bothFetch pFirst).rstN = true ∧ (bothFetch pFirst).ready = true ∧ (bothFetch pFirst).busy = false ∧
    (bothFetch pFirst).hold = none ∧ (bothFetch pFirst).fullP = false ∧ (bothFetch pFirst).emptyC = true ∧
    decode 0x0241#13 = .ok (.send 0x41#9) := by
  refine ⟨asking_inv _, ?_⟩
  cases pFirst <;> decide +kernel

theorem test_both_fetch :
    ((nextOf (step (bothFetch true))).pol = true ∧ ((nextOf (step (bothFetch true))).hold.map fingerprint) = some 0x797FA550) ∧
    ((nextOf (step (bothFetch false))).pol = false ∧ ((nextOf (step (bothFetch false))).hold.map fingerprint) = some 0x9AC55AB0) ∧
    (nextOf (step (bothFetch true))).lastSense = false ∧ (nextOf (step (bothFetch false))).lastSense = false := by decide +kernel

end Sys2Proof.Tests
end

section
/-! The turn of an operation (R63, R145) and the three crossing operations (R38, R39, R40). -/

namespace Sys2Proof.Machine

section

variable {s : State}

/-- A cursor that is not level with its view is a lag away. -/
theorem lag_ne_zero {view owner : Cursor} (h : view ≠ owner) : owner - view ≠ 0#5 := fun h0 =>
  h (cursor_sub_zero.1 (by rw [h0]; rfl)).symm

theorem execSyncw_of_lag (h : s.wrC ≠ s.wr) : exec .syncw s = .next ((s.setWrC s.nextWrC).answer .quiet) :=
  ((execSyncw_cases s).resolve_left fun hc => h hc.1).2

theorem execSyncr_of_lag (h : s.rdP ≠ s.rd) : exec .syncr s = .next ((s.setRdP s.nextRdP).answer .quiet) :=
  ((execSyncr_cases s).resolve_left fun hc => h hc.1).2

theorem execSyncc_of_lag (h : s.carrierC ≠ s.carrier) : exec .syncc s = .next (s.syncCarrier.answer .quiet) :=
  ((execSyncc_cases s).resolve_left fun hc => h hc.1).2

/-- `ready = 0` holds up P and C alone (R24, log 30). -/
theorem notYet_false {who : Agent} (h : who = .host ∨ who = .crossing ∨ s.ready = true) : s.notYet who = false := by
  rcases h with rfl | rfl | h
  · simp [State.notYet]
  · simp [State.notYet]
  · simp [State.notYet, h]

theorem cBusy_false {who : Agent} : s.cBusy who = false ↔ (who = .consumer → s.busy = false) := by
  cases hb : s.busy <;> simp [State.cBusy, hb]

theorem mustFinish_false {who : Agent} {i : Instr} (h : who = .producer → s.hold = none ∨ i = .enq) :
    s.mustFinish who i = false := by
  by_cases hw : who = .producer
  · rcases h hw with hh | hi
    · simp [State.mustFinish, hh]
    · simp [State.mustFinish, hi]
  · simp [State.mustFinish, hw]

theorem mustCross_false {i : Instr} (h : i = .tick → s.staleTick = false ∨ s.carrierC = s.carrier) :
    s.mustCross i = false := by
  by_cases hi : i = .tick
  · rcases h hi with hs | hc
    · simp [State.mustCross, State.carrierDue, hs]
    · simp [State.mustCross, State.carrierDue, hc]
  · exact mustCross_of_ne hi

/-- A TICK of C that X's SYNCC comes before is that SYNCC, and waits. -/
theorem performOp_due {w : OpWord} (n : Nat) (hd : decode w = .ok .tick) (hr : s.ready = true) (hb : s.busy = false)
    (hs : s.staleTick = true) (hc : s.carrierC ≠ s.carrier) :
    performOp .consumer w n s = exec .syncc (s.withTurns (.op .consumer w n :: s.turns)) := by
  have hx : s.mustCross .tick = true := (mustCross_tick s).trans (carrierDue_iff.2 ⟨hs, hc⟩)
  simp [performOp, hd, mayIssue, notYet_false (.inr (.inr hr)), cBusy_false.2 fun _ => hb, State.mustFinish, hx, exec]

end

/-- Settles O12. A due SYNCC is the whole step, and after it the view is level, so that the TICK is next. -/
theorem stepRunsTheDecodedOperation : Obligations.StepRunsTheDecodedOperation := by
  have runs : ∀ (s : State) (who : Agent) (w : OpWord) (n : Nat) (rest : List Turn) (i : Instr),
      s.turns = .op who w n :: rest → decode w = .ok i → mayIssue who i = true →
      (who = .host ∨ who = .crossing ∨ s.ready = true) → (who = .consumer → s.busy = false) →
      (who = .producer → s.hold = none ∨ i = .enq) → (i = .tick → s.staleTick = false ∨ s.carrierC = s.carrier) →
      step s = exec i ((s.withTurns rest).withChoice n) := by
    intro s who w n rest i ht hd hm hr hb hf hx
    rw [step_of_turns ht]
    exact performOp_exec n hd hm (notYet_false hr) (cBusy_false.2 hb) (mustFinish_false hf) (mustCross_false hx)
  refine ⟨runs, fun s w n rest ht hd hr hb hs hc => ?_⟩
  have hsync : step s = exec .syncc s := by
    rw [step_of_turns ht]
    refine (performOp_due (s := s.withTurns rest) n hd hr hb hs hc).trans ?_
    rw [State.withTurns_turns, withTurns_back rest ht]
  refine ⟨hsync, _, hsync.trans (execSyncc_of_lag hc), rfl, rfl, ?_⟩
  exact runs _ .consumer w n rest .tick ht hd rfl (.inr (.inr hr)) (fun _ => hb) (by simp) fun _ => .inr rfl

/-- Settles O29: the amount is `viewAdvance` of the lag, which takes every value the rule allows. -/
theorem syncwMovesTheViewForward : Obligations.SyncwMovesTheViewForward := by
  intro s h
  have hlag := viewAdvance_bounds (lag_ne_zero h)
  refine ⟨⟨_, _, execSyncw_of_lag h, (hlag s.choice).1, (hlag s.choice).2, rfl, rfl⟩, fun d h0 h1 => ?_⟩
  refine ⟨d.toNat - 1, _, execSyncw_of_lag (s := s.withChoice _) h, ?_⟩
  exact congrArg (s.wrC + ·) (viewAdvance_reaches h0 h1)

/-- Settles O30, as O29. -/
theorem syncrMovesTheViewForward : Obligations.SyncrMovesTheViewForward := by
  intro s h
  have hlag := viewAdvance_bounds (lag_ne_zero h)
  refine ⟨⟨_, _, execSyncr_of_lag h, (hlag s.choice).1, (hlag s.choice).2, rfl, rfl⟩, fun d h0 h1 => ?_⟩
  refine ⟨d.toNat - 1, _, execSyncr_of_lag (s := s.withChoice _) h, ?_⟩
  exact congrArg (s.rdP + ·) (viewAdvance_reaches h0 h1)

end Sys2Proof.Machine
end

section
/-! What one turn does to the machine, said once: an operation performed and some bookkeeping, or an edge, or the reset pin. -/

namespace Sys2Proof.Machine

/-- Everything a turn `t`, taken off the list of `s`, can leave. -/
inductive TurnEffect (t : Turn) (s u : State) : Prop
  /-- An operation is performed; only the caller's batch and the answer may be written after it. Where step 2 of a SEND or X's SYNCC
  comes first, the turn waits in the list (R131, log 9). -/
  | operation {i : Instr} {x : State} (waiting : List Turn) (n : Nat) (b : Option Batch) (o : Output)
      (hwait : waiting = s.turns ∨ waiting = t :: s.turns)
      (hidle : i = .advr ∨ i = .tick → s.busy = false)
      (hkeep : t.keepsCarrier = true → keepsCarrier i = true)
      (hexec : exec i ((s.withTurns waiting).withChoice n) = .next x)
      (hu : u = { x with batch := b, out := o })
  /-- No operation: the batch, the answer, and the levels of `ready` and `rst_n` (R24, R124). -/
  | bookkeeping (b : Option Batch) (o : Output) (rdy pin : Bool)
      (hpin : (rdy = s.ready ∧ pin = s.rstN) ∨ pin = true)
      (hu : u = { s with batch := b, out := o, ready := rdy, rstN := pin })
  /-- An edge of the P clock (R48). -/
  | pClk (pins : PPins) (hkeep : t.keepsCarrier = false) (hu : u = ((s.pWork pins).pShift s.rdGray).answer .quiet)
  /-- An edge of the C clock (R48). -/
  | cClk (pins : CPins) (hkeep : t.keepsCarrier = false) (hu : u = ((s.cWork pins).cShift s.wrGray s.carrier).answer .quiet)
  /-- An edge of both clocks; each first stage samples an old or a new value (R48, log 18). -/
  | bothClk (pins : PPins) (cpins : CPins) (pFirst : Bool) (x y : Cursor) (v : Bool) (hkeep : t.keepsCarrier = false)
      (hx : x = (s.bothWork pins cpins pFirst).rdGray ∨ x = s.rdGray)
      (hy : y = (s.bothWork pins cpins pFirst).wrGray ∨ y = s.wrGray)
      (hu : u = (((s.bothWork pins cpins pFirst).pShift x).cShift y v).answer .quiet)
  /-- The reset pin goes low (R155). -/
  | resetLow (hkeep : t.keepsCarrier = false) (hu : u = { s.resetAll with ready := false, rstN := false })

section

variable {t : Turn} {s u : State}

/-- A turn that performs an operation on the state as it stands. -/
theorem TurnEffect.performed {i : Instr} {x : State} (b : Option Batch) (o : Output)
    (hidle : i = .advr ∨ i = .tick → s.busy = false) (hkeep : t.keepsCarrier = true → keepsCarrier i = true)
    (hexec : exec i s = .next x) : TurnEffect t s { x with batch := b, out := o } :=
  .operation s.turns s.choice b o (.inl rfl) hidle hkeep hexec rfl

/-- A turn that waits behind step 2 of a SEND. -/
theorem TurnEffect.finished (h : execEnq (s.withTurns (t :: s.turns)) = .next u) : TurnEffect t s u :=
  .operation (i := .enq) _ s.choice u.batch u.out (.inr rfl) (by simp) (fun _ => rfl) h rfl

/-- A turn that changes at most the batch and the answer. -/
theorem TurnEffect.noted (b : Option Batch) (o : Output) : TurnEffect t s { s with batch := b, out := o } :=
  .bookkeeping b o s.ready s.rstN (.inl ⟨rfl, rfl⟩) rfl

/-- ADVR and TICK are C's alone (R145). -/
theorem consumer_of_mayIssue {who : Agent} {i : Instr} (hm : mayIssue who i = true) (hi : i = .advr ∨ i = .tick) :
    who = .consumer := by
  rcases hi with rfl | rfl <;> simpa [mayIssue] using hm

theorem performOp_effect {who : Agent} {w : OpWord} {n : Nat} (h : performOp who w n s = .next u) :
    TurnEffect (.op who w n) s u := by
  rcases performOp_cases who w n s with ⟨r, e⟩ | ⟨i, -, -, -, -, e⟩ | ⟨-, -, -, hc, e⟩ | ⟨i, hd, hm, hb, -, -, e⟩ <;> rw [e] at h
  · cases h
  · exact .finished h
  · exact .operation (i := .syncc) _ s.choice u.batch u.out (.inr rfl) (by simp) (fun _ => rfl) ((if_neg hc).trans h) rfl
  · refine .operation (i := i) s.turns n u.batch u.out (.inl rfl) (fun hi => ?_) (fun hk => ?_) h rfl
    · exact cBusy_false.1 hb (consumer_of_mayIssue hm hi)
    · simpa [Turn.keepsCarrier, hd, Except.toOption] using hk

/-- A turn of P takes step 2 of a SEND between its two steps, or does what it is for. -/
theorem finishFirst_effect {k : Host.Outcome State Fault Refusal} (h : finishFirst t s k = .next u)
    (hk : k = .next u → TurnEffect t s u) : TurnEffect t s u := by
  cases hh : s.hold with
  | none => exact hk ((finishFirst_of_none hh).symm.trans h)
  | some blk => exact .finished ((finishFirst_of_some hh).symm.trans h)

theorem portCommand_effect {who : Agent} {w : OpWord} (h : portCommand w s = .next u) : TurnEffect (.port who w) s u := by
  unfold portCommand at h
  cases hd : decode w with
  | error e => simp only [hd] at h; cases h; exact .noted _ _
  | ok i =>
    simp only [hd] at h
    split at h
    · rename_i hp
      refine .performed u.batch u.out (fun hi => ?_) (fun hk => ?_) h
      · rcases hi with rfl | rfl <;> cases hp
      · simpa [Turn.keepsCarrier, hd, Except.toOption, hp] using hk
    · cases h; exact .noted _ _

theorem offerWord_effect {who : Agent} {w : OpWord} (h : offerWord who w s = .next u) : TurnEffect (.port who w) s u := by
  unfold offerWord at h
  split at h
  · cases h
  · split at h
    · cases h
    · exact finishFirst_effect h portCommand_effect

theorem producerStep_next {k : Host.Outcome State Fault Refusal} (h : producerStep s k = .next u) : k = .next u := by
  unfold producerStep at h
  split at h
  · cases h
  · exact h

theorem batchStep_effect (h : batchStep s = .next u) : TurnEffect .sendBytesStep s u := by
  unfold batchStep at h
  split at h
  · exact .operation (i := .enq) _ s.choice u.batch u.out (.inl rfl) (by simp) (fun _ => rfl) h rfl
  · split at h
    · cases h; exact .noted _ _
    · obtain ⟨x, hx, hu⟩ := andThen_eq_next.1 h
      cases hu
      split
      · exact .performed (i := .isdr) _ _ (by simp) (fun _ => rfl) hx
      · exact .performed (i := .isdr) x.batch x.out (by simp) (fun _ => rfl) hx
    · cases h; exact .noted _ _
    · obtain ⟨x, hx, hu⟩ := andThen_eq_next.1 h
      cases hu
      exact .performed (i := .send _) _ _ (by simp) (fun _ => rfl) hx

theorem execDeq_effect (hb : s.busy = false) (h : execDeq s = .next u) : TurnEffect .deq s u := by
  unfold execDeq at h
  split at h
  · exact .performed (i := .peek) u.batch u.out (by simp) (fun _ => rfl) h
  · obtain ⟨x, hx, hu⟩ := andThen_eq_next.1 h
    cases hu
    exact .performed (i := .advr) _ _ (fun _ => hb) (fun _ => rfl) hx

theorem pEdge_effect {pins : PPins} (h : pEdge pins s.rdGray s = .next u) : TurnEffect (.pClk pins) s u := by
  unfold pEdge at h
  split at h
  · cases h
  · split at h <;> cases h
    · exact .noted _ _
    · exact .pClk pins rfl rfl

theorem cEdge_effect {pins : CPins} (h : cEdge pins s.wrGray s.carrier s = .next u) : TurnEffect (.cClk pins) s u := by
  unfold cEdge at h
  split at h
  · cases h
  · split at h
    · cases h
    · split at h <;> cases h
      · exact .noted _ _
      · exact .cClk pins rfl rfl

theorem bothEdges_effect {pins : PPins} {cpins : CPins} {cross : CrossChoice} (h : bothEdges pins cpins cross s = .next u) :
    TurnEffect (.bothClk pins cpins cross) s u := by
  unfold bothEdges at h
  dsimp only at h
  split at h
  · cases h
  · split at h
    · cases h
    · split at h <;> cases h
      · exact .noted _ _
      · exact .bothClk pins cpins cross.pFirst _ _ _ rfl (ite_eq_or_eq ..) (ite_eq_or_eq ..) rfl

theorem resetPin_effect {level : Bool} (h : resetPin level s = .next u) : TurnEffect (.resetPin level) s u := by
  cases level <;> cases h
  · exact .resetLow rfl rfl
  · exact .bookkeeping s.batch .quiet s.ready true (.inr rfl) rfl

theorem initDone_effect (h : initDone s = .next u) : TurnEffect .initDone s u := by
  unfold initDone at h
  split at h
  · rename_i hr
    cases h
    exact .bookkeeping s.batch .quiet true s.rstN (.inr hr) rfl
  · cases h; exact .noted _ _

/-- Every turn has one of these effects. -/
theorem runTurn_effect (h : runTurn t s = .next u) : TurnEffect t s u := by
  cases t with
  | op who w n => exact performOp_effect h
  | port who w => exact offerWord_effect h
  | sendBytes who bytes =>
    unfold runTurn at h
    dsimp only at h
    split at h
    · cases h
    · refine finishFirst_effect (producerStep_next h) fun hs => ?_
      cases hs
      exact .noted _ _
  | sendBytesStep => exact batchStep_effect (producerStep_next h)
  | dropBatch => cases h; exact .noted _ _
  | deq =>
    unfold runTurn at h
    dsimp only at h
    split at h
    · cases h
    · split at h
      · cases h
      · rename_i hb; exact execDeq_effect (by simpa using hb) h
  | togc =>
    exact finishFirst_effect (producerStep_next h) fun hs =>
      .performed (i := .setc _) u.batch u.out (by simp) (fun hk => by cases hk) hs
  | pClk pins => exact pEdge_effect h
  | cClk pins => exact cEdge_effect h
  | bothClk pins cpins cross => exact bothEdges_effect h
  | resetPin level => exact resetPin_effect h
  | initDone => exact initDone_effect h

/-- A step changes nothing, or has the effect of the first turn. -/
theorem step_effect (h : step s = .next u) :
    u = s ∨ ∃ t rest, s.turns = t :: rest ∧ TurnEffect t (s.withTurns rest) u := by
  cases ht : s.turns with
  | nil => rw [step_idle ht] at h; cases h; exact .inl rfl
  | cons t rest =>
    rw [step_of_turns ht] at h
    exact .inr ⟨t, rest, rfl, runTurn_effect h⟩

end

end Sys2Proof.Machine
end

section
/-! Every step of either level keeps the invariant (R27, R23, R24, R110, R128). -/

namespace Sys2Proof.Machine

section

variable {t : Turn} {s u : State}

/-- Every operation keeps the invariant; C moves `rd` only while no block is being emitted (R66). -/
theorem exec_inv {i : Instr} (h : s.Inv) (hidle : i = .advr ∨ i = .tick → s.busy = false) (he : exec i s = .next u) :
    u.Inv := by
  cases i with
  | send arg =>
    rcases execSend_cases s arg with ⟨_, e⟩ | ⟨_, _, e⟩ | ⟨b, _, _, _, e⟩ | ⟨b, _, _, hf, e⟩ <;> rw [e] at he <;> cases he
    · exact h.raisePort _
    · exact h.raisePort _
    · exact ((h.fetch (.byte b)).intoHold hf _).answer _
  | setc v => obtain ⟨_, rfl⟩ := (execSetc_next s).1 he; exact (h.setCarrier v).respond _
  | isdr => obtain ⟨_, rfl⟩ := (execIsdr_next s).1 he; exact h.respond _
  | build sym => rcases execBuild_cases s sym with ⟨_, e⟩ | ⟨_, _, e⟩ <;> rw [e] at he <;> cases he <;> exact h.answer _
  | fetch sym =>
    rcases execFetch_cases s sym with ⟨_, e⟩ | ⟨y, _, e⟩ <;> rw [e] at he <;> cases he
    · exact h.raiseInner _
    · exact (h.fetch y).withDataPath _ _
  | enq =>
    rcases execEnq_cases s with ⟨_, _, e⟩ | ⟨hh, hf, e⟩ | ⟨_, _, e⟩ | ⟨b, _, hf, e⟩ <;> rw [e] at he <;> cases he
    · exact h.raiseInner _
    · exact ((h.slotWrite s.wr s.dataPath).pushAlone hf hh).answer _
    · exact h.raisePort _
    · exact ((h.slotWrite s.wr b).push hf).respond _
  | peek => rcases execPeek_cases s with ⟨_, e⟩ | ⟨_, e⟩ <;> rw [e] at he <;> cases he <;> exact h.answer _
  | advr =>
    rcases execAdvr_cases s with ⟨_, e⟩ | ⟨hc, e⟩ <;> rw [e] at he <;> cases he
    · exact h.raiseInner _
    · exact (h.popAlone hc (hidle (.inl rfl))).answer _
  | tick =>
    rcases execTick_cases s with ⟨hc, e⟩ | ⟨_, _, e⟩ | ⟨_, _, e⟩ <;> rw [e] at he <;> cases he
    · exact ((h.noteCarrier.popAlone hc (hidle (.inr rfl))).withSeqState _).answer _
    · exact ((h.noteCarrier.fetch .idle).withSeqState _).answer _
    · exact ((h.noteCarrier.fetch .silence).withSeqState _).answer _
  | reset => cases he; exact s.resetAll_inv
  | syncw =>
    rcases execSyncw_cases s with ⟨_, e⟩ | ⟨_, e⟩ <;> rw [e] at he <;> cases he
    · exact h.answer _
    · exact h.nextWrC.answer _
  | syncr =>
    rcases execSyncr_cases s with ⟨_, e⟩ | ⟨_, e⟩ <;> rw [e] at he <;> cases he
    · exact h.answer _
    · exact h.nextRdP.answer _
  | syncc =>
    rcases execSyncc_cases s with ⟨_, e⟩ | ⟨_, e⟩ <;> rw [e] at he <;> cases he
    · exact h.answer _
    · exact h.syncCarrier.answer _

/-! Level B: the work of each side at an edge -/

theorem State.Inv.writeStepB (h : s.Inv) {blk : Block} (hh : s.hold = some blk) : (s.writeStepB blk).Inv := by
  have hheld : s.hold.isSome = true := by simp [hh]
  unfold State.writeStepB
  split
  · exact ⟨h.chain, h.wrCode, h.rdCode, h.holdRoom, h.emission, fun _ => hheld, h.lastSample, h.resetHeld, h.stale⟩
  · exact (h.push (h.holdRoom hheld)).withResponse _ _

theorem State.Inv.acceptB (h : s.Inv) (w : OpWord) : (s.acceptB w).Inv := by
  unfold State.acceptB
  split
  · rename_i arg _
    rcases sendStep1_cases s s.fullGray arg with ⟨_, e⟩ | ⟨_, _, _, e⟩ | ⟨b, _, hf, e⟩ <;> rw [e]
    · exact h.withResponse _ _
    · exact h.withResponse _ _
    · have hk := (h.fetch (.byte b)).intoHold ((fullGray_eq h.wrCode).symm.trans hf) (s.fetch (.byte b)).1
      exact ⟨hk.chain, hk.wrCode, hk.rdCode, hk.holdRoom, hk.emission, fun _ => rfl, hk.lastSample, hk.resetHeld, hk.stale⟩
  · exact (h.setCarrier _).withResponse _ _
  all_goals exact h.withResponse _ _

theorem State.Inv.pWork (h : s.Inv) (pins : PPins) : (s.pWork pins).Inv := by
  cases hh : s.hold with
  | some blk => rw [pWork_of_some pins hh]; exact h.writeStepB hh
  | none =>
    rw [pWork_of_none pins hh]
    split
    · exact h.acceptB _
    · exact h.withResponse _ _

/-- A tick starts the emission of a block: from the queue only where C sees one (R116, R128). -/
theorem State.Inv.emit (h : s.Inv) (state source : SeqState) (variant : Bool) (he : source = .draining → s.emptyC = false) :
    ({ s with seqState := state, src := source, pol := variant, sidx := 0, busy := true, cValid := false, cLast := false,
              staleTick := s.carrierC != s.carrier } : State).Inv :=
  ⟨h.chain, h.wrCode, h.rdCode, h.holdRoom, fun _ => he, h.sending, fun hs => by simp at hs, h.resetHeld,
    fun hs => by simpa using hs⟩

/-- Only a queue that C does not see empty is drained (R116). -/
theorem empty_of_draining {empty carrier : Bool} (h : chooseState empty carrier = .draining) : empty = false := by
  cases empty with
  | false => rfl
  | true => cases carrier <;> cases h

theorem State.Inv.startTickB (h : s.Inv) : s.startTickB.Inv := by
  unfold State.startTickB
  generalize hc : chooseState s.emptyGray s.carrierC = source
  cases source with
  | draining => exact h.emit .draining .draining s.pol fun _ => (emptyGray_eq h.rdCode).symm.trans (empty_of_draining hc)
  | carrierIdle => exact (h.fetch .idle).emit .carrierIdle .carrierIdle s.lastSense (by simp)
  | silent => exact (h.fetch .silence).emit .silent .silent s.lastSense (by simp)

theorem State.Inv.finishB (h : s.Inv) (hb : s.busy = true) : s.finishB.Inv := by
  unfold State.finishB
  cases hs : s.src with
  | draining => exact h.pop (h.emission hb hs) false
  | _ =>
    exact ⟨h.chain, h.wrCode, h.rdCode, h.holdRoom, fun hs => by simp at hs, h.sending, fun hs => by simp at hs, h.resetHeld,
      h.stale⟩

theorem State.Inv.presentB (h : s.Inv) (hb : s.busy = true) : s.presentB.Inv := by
  refine ⟨h.chain, h.wrCode, h.rdCode, h.holdRoom, h.emission, h.sending, fun hl => ⟨hb, ?_⟩, h.resetHeld, h.stale⟩
  have hi : s.sidx.val = 119 := of_decide_eq_true hl
  simp [State.presentB, hi]

theorem State.Inv.noSample (h : s.Inv) : ({ s with cValid := false } : State).Inv :=
  ⟨h.chain, h.wrCode, h.rdCode, h.holdRoom, h.emission, h.sending, h.lastSample, h.resetHeld, h.stale⟩

theorem State.Inv.atRest (h : s.Inv) : ({ s with cValid := false, cLast := false } : State).Inv :=
  ⟨h.chain, h.wrCode, h.rdCode, h.holdRoom, h.emission, h.sending, fun hs => by simp at hs, h.resetHeld, h.stale⟩

theorem State.Inv.cWork (h : s.Inv) (pins : CPins) : (s.cWork pins).Inv := by
  unfold State.cWork
  split
  · exact h.startTickB
  · split
    · rename_i hb
      split
      · exact h.finishB hb
      · split
        · exact h.noSample
        · exact h.presentB hb
    · exact h.atRest

theorem State.Inv.bothWork (h : s.Inv) (pins : PPins) (cpins : CPins) (pFirst : Bool) :
    (s.bothWork pins cpins pFirst).Inv := by
  cases pFirst
  · exact (h.cWork cpins).pWork pins
  · exact (h.pWork pins).cWork cpins

theorem pWork_rd (s : State) (pins : PPins) : (s.pWork pins).rd = s.rd := by
  obtain ⟨-, h, -⟩ := pWork_moves s pins
  exact h

theorem cWork_wr (s : State) (pins : CPins) : (s.cWork pins).wr = s.wr := by
  obtain ⟨-, h, -⟩ := cWork_moves s pins
  exact h

/-- The work of both sides at one instant: views and first stages stay, and each cursor moves by at most one. -/
structure WorkMoves (s u : State) : Prop where
  wrC : u.wrC = s.wrC
  rdP : u.rdP = s.rdP
  wrGrayS1 : u.wrGrayS1 = s.wrGrayS1
  rdGrayS1 : u.rdGrayS1 = s.rdGrayS1
  wr : u.wr = s.wr ∨ u.wr = s.wr + 1#5
  rd : u.rd = s.rd ∨ u.rd = s.rd + 1#5

theorem pWork_workMoves (s : State) (pins : PPins) : WorkMoves s (s.pWork pins) := by
  obtain ⟨-, hrd, -, hws, hrs, hrp, hwc, -, -, -, -, -, hwr⟩ := pWork_moves s pins
  exact ⟨hwc, hrp, hws, hrs, hwr, .inl hrd⟩

theorem cWork_workMoves (s : State) (pins : CPins) : WorkMoves s (s.cWork pins) := by
  obtain ⟨-, hwr, -, -, hws, hrs, hrp, hwc, -, -, -, -, -, -, -, hrd⟩ := cWork_moves s pins
  exact ⟨hwc, hrp, hws, hrs, .inl hwr, hrd⟩

theorem bothWork_workMoves (s : State) (pins : PPins) (cpins : CPins) (pFirst : Bool) :
    WorkMoves s (s.bothWork pins cpins pFirst) := by
  cases pFirst with
  | true =>
    have hp := pWork_workMoves s pins
    have hc := cWork_workMoves (s.pWork pins) cpins
    exact ⟨hc.wrC.trans hp.wrC, hc.rdP.trans hp.rdP, hc.wrGrayS1.trans hp.wrGrayS1, hc.rdGrayS1.trans hp.rdGrayS1,
      (cWork_wr (s.pWork pins) cpins).symm ▸ hp.wr, pWork_rd s pins ▸ hc.rd⟩
  | false =>
    have hc := cWork_workMoves s cpins
    have hp := pWork_workMoves (s.cWork cpins) pins
    exact ⟨hp.wrC.trans hc.wrC, hp.rdP.trans hc.rdP, hp.wrGrayS1.trans hc.wrGrayS1, hp.rdGrayS1.trans hc.rdGrayS1,
      cWork_wr s cpins ▸ hp.wr, (pWork_rd (s.cWork cpins) pins).symm ▸ hc.rd⟩

/-- A first stage samples the old or the new value of a cursor that moves by at most one: a value between the stage and the cursor. -/
theorem sampled_between {stage old new x : Cursor} (hnew : new = old ∨ new = old + 1#5) (hx : x = new ∨ x = old)
    (hlag : (old - stage).toNat < 31) : (x - stage).toNat + (new - x).toNat = (new - stage).toNat := by
  rcases hx with rfl | rfl
  · rw [cursor_sub_self, Nat.add_zero]
  · rcases hnew with rfl | rfl
    · rw [cursor_sub_self, Nat.add_zero]
    · have hone : (x + 1#5 - x).toNat = 1 := by simp
      rw [cursor_succ_sub hlag, hone]

/-- Whatever a turn does keeps the invariant. -/
theorem TurnEffect.inv (h : s.Inv) (e : TurnEffect t s u) : u.Inv := by
  cases e with
  | operation waiting n b o _ hidle _ hexec hu =>
    subst hu
    exact ((exec_inv ((h.withTurns waiting).withChoice n) hidle hexec).withBatch b).answer o
  | bookkeeping b o rdy pin hpin hu =>
    subst hu
    refine ⟨h.chain, h.wrCode, h.rdCode, h.holdRoom, h.emission, h.sending, h.lastSample, fun hp => ?_, h.stale⟩
    rcases hpin with ⟨hr, hq⟩ | hq
    · exact hr.trans (h.resetHeld (hq.symm.trans hp))
    · exact absurd (hq.symm.trans hp) (by simp)
  | pClk pins _ hu =>
    subst hu
    refine ((h.pWork pins).pShift ?_).answer _
    rw [pWork_rd, h.rdCode, ungray_gray, cursor_sub_self, Nat.add_zero]
  | cClk pins _ hu =>
    subst hu
    refine ((h.cWork pins).cShift _ ?_).answer _
    rw [cWork_wr, h.wrCode, ungray_gray, cursor_sub_self, Nat.add_zero]
  | bothClk pins cpins pFirst x y v _ hx hy hu =>
    subst hu
    have hb := h.bothWork pins cpins pFirst
    have hm := bothWork_workMoves s pins cpins pFirst
    have hle := h.chain
    unfold State.chainOk at hle
    have hrd : ungray x = (s.bothWork pins cpins pFirst).rd ∨ ungray x = s.rd := by
      rcases hx with rfl | rfl
      · exact .inl (by rw [hb.rdCode, ungray_gray])
      · exact .inr (by rw [h.rdCode, ungray_gray])
    have hwr : ungray y = (s.bothWork pins cpins pFirst).wr ∨ ungray y = s.wr := by
      rcases hy with rfl | rfl
      · exact .inl (by rw [hb.wrCode, ungray_gray])
      · exact .inr (by rw [h.wrCode, ungray_gray])
    have hxb := sampled_between (stage := ungray s.rdGrayS1) hm.rd hrd (by omega)
    have hyb := sampled_between (stage := ungray s.wrGrayS1) hm.wr hwr (by omega)
    rw [← hm.rdGrayS1] at hxb
    rw [← hm.wrGrayS1] at hyb
    exact ((hb.pShift hxb).cShift v hyb).answer _
  | resetLow _ hu =>
    subst hu
    have hr := s.resetAll_inv
    exact ⟨hr.chain, hr.wrCode, hr.rdCode, hr.holdRoom, hr.emission, hr.sending, hr.lastSample, fun _ => rfl, hr.stale⟩

/-- Every step keeps the invariant. -/
theorem step_inv (h : s.Inv) (he : step s = .next u) : u.Inv := by
  rcases step_effect he with rfl | ⟨t, rest, -, e⟩
  · exact h
  · exact e.inv (h.withTurns rest)

end

end Sys2Proof.Machine
end

section
/-! How each step moves the views (R37 to R40, R48), and where fairness leads (R43). -/

namespace Sys2Proof.Machine

/-! What an operation does to the views and the carrier -/

/-- The part of an operation that writes a view, the carrier or the mark of R40's bound. -/
def crossPart : Instr → State → State
  | .setc v, s => s.setCarrier v
  | .tick, s => s.noteCarrier
  | .reset, s => s.resetAll
  | .syncw, s => s.setWrC s.nextWrC
  | .syncr, s => s.setRdP s.nextRdP
  | .syncc, s => { s with carrierC := s.carrier, staleTick := s.staleTick && s.carrierC == s.carrier }
  | .send _, s => s
  | .isdr, s => s
  | .build _, s => s
  | .fetch _, s => s
  | .enq, s => s
  | .peek, s => s
  | .advr, s => s

/-- The views, the carrier, the mark of R40's bound and the requests to come are the same. -/
structure SameViews (s u : State) : Prop where
  wrC : u.wrC = s.wrC
  rdP : u.rdP = s.rdP
  carrier : u.carrier = s.carrier
  carrierC : u.carrierC = s.carrierC
  staleTick : u.staleTick = s.staleTick
  turns : u.turns = s.turns

section

variable {i : Instr} {t : Turn} {s u : State}

/-- Besides that part an operation writes neither view nor carrier (R145, R146). -/
theorem exec_crossPart (he : exec i s = .next u) : SameViews (crossPart i s) u := by
  cases i with
  | send arg =>
    rcases execSend_cases s arg with ⟨_, e⟩ | ⟨_, _, e⟩ | ⟨b, _, _, _, e⟩ | ⟨b, _, _, _, e⟩ <;> rw [e] at he <;> cases he <;>
      exact ⟨rfl, rfl, rfl, rfl, rfl, rfl⟩
  | setc v => obtain ⟨_, rfl⟩ := (execSetc_next s).1 he; exact ⟨rfl, rfl, rfl, rfl, rfl, rfl⟩
  | isdr => obtain ⟨_, rfl⟩ := (execIsdr_next s).1 he; exact ⟨rfl, rfl, rfl, rfl, rfl, rfl⟩
  | build sym =>
    rcases execBuild_cases s sym with ⟨_, e⟩ | ⟨_, _, e⟩ <;> rw [e] at he <;> cases he <;> exact ⟨rfl, rfl, rfl, rfl, rfl, rfl⟩
  | fetch sym =>
    rcases execFetch_cases s sym with ⟨_, e⟩ | ⟨_, _, e⟩ <;> rw [e] at he <;> cases he <;> exact ⟨rfl, rfl, rfl, rfl, rfl, rfl⟩
  | enq =>
    rcases execEnq_cases s with ⟨_, _, e⟩ | ⟨_, _, e⟩ | ⟨_, _, e⟩ | ⟨b, _, _, e⟩ <;> rw [e] at he <;> cases he <;>
      exact ⟨rfl, rfl, rfl, rfl, rfl, rfl⟩
  | peek =>
    rcases execPeek_cases s with ⟨_, e⟩ | ⟨_, e⟩ <;> rw [e] at he <;> cases he <;> exact ⟨rfl, rfl, rfl, rfl, rfl, rfl⟩
  | advr =>
    rcases execAdvr_cases s with ⟨_, e⟩ | ⟨_, e⟩ <;> rw [e] at he <;> cases he <;> exact ⟨rfl, rfl, rfl, rfl, rfl, rfl⟩
  | tick =>
    rcases execTick_cases s with ⟨_, e⟩ | ⟨_, _, e⟩ | ⟨_, _, e⟩ <;> rw [e] at he <;> cases he <;>
      exact ⟨rfl, rfl, rfl, rfl, rfl, rfl⟩
  | reset => cases he; exact ⟨rfl, rfl, rfl, rfl, rfl, rfl⟩
  | syncw =>
    rcases execSyncw_cases s with ⟨hc, e⟩ | ⟨_, e⟩ <;> rw [e] at he <;> cases he
    · refine ⟨?_, rfl, rfl, rfl, rfl, rfl⟩
      simp [crossPart, State.nextWrC, hc, viewAdvance_zero]
    · exact ⟨rfl, rfl, rfl, rfl, rfl, rfl⟩
  | syncr =>
    rcases execSyncr_cases s with ⟨hc, e⟩ | ⟨_, e⟩ <;> rw [e] at he <;> cases he
    · refine ⟨rfl, ?_, rfl, rfl, rfl, rfl⟩
      simp [crossPart, State.nextRdP, hc, viewAdvance_zero]
    · exact ⟨rfl, rfl, rfl, rfl, rfl, rfl⟩
  | syncc =>
    rcases execSyncc_cases s with ⟨hc, e⟩ | ⟨hc, e⟩ <;> rw [e] at he <;> cases he
    · exact ⟨rfl, rfl, rfl, hc, by simp [crossPart, hc], rfl⟩
    · exact ⟨rfl, rfl, rfl, rfl, by simp [crossPart, hc], rfl⟩

/-! A view moves towards its owner -/

/-- A view after a step: level with its owner, at its first synchroniser stage, or moved by no more than its lag. -/
inductive ViewMove (view stage owner view' owner' : Cursor) : Prop
  | level (h : view' = owner')
  | stage (h : view' = stage)
  | forward (d : Cursor) (hd : d.toNat ≤ (owner - view).toNat) (h : view' = view + d)

theorem ViewMove.still {view stage owner view' owner' : Cursor} (h : view' = view) :
    ViewMove view stage owner view' owner' := .forward 0#5 (Nat.zero_le _) (by simpa using h)

/-- Where the owner stays, its view lags by no more than before. -/
theorem ViewMove.lag_le {view stage owner view' : Cursor} (hs : (owner - stage).toNat ≤ (owner - view).toNat)
    (hm : ViewMove view stage owner view' owner) : (owner - view').toNat ≤ (owner - view).toNat := by
  cases hm with
  | level h => subst h; rw [cursor_sub_self]; exact Nat.zero_le _
  | stage h => subst h; exact hs
  | forward d hd h =>
    subst h
    have := (cursor_move hd).2
    omega

theorem exec_wrC (stage : Cursor) (he : exec i s = .next u) : ViewMove s.wrC stage s.wr u.wrC u.wr := by
  have hv := (exec_crossPart he).wrC
  cases i with
  | reset => cases he; exact .level rfl
  | syncw => exact .forward _ (viewAdvance_le _ _) hv
  | _ => exact .still hv

theorem exec_rdP (stage : Cursor) (he : exec i s = .next u) : ViewMove s.rdP stage s.rd u.rdP u.rd := by
  have hv := (exec_crossPart he).rdP
  cases i with
  | reset => cases he; exact .level rfl
  | syncr => exact .forward _ (viewAdvance_le _ _) hv
  | _ => exact .still hv

theorem TurnEffect.wrC (e : TurnEffect t s u) : ViewMove s.wrC (ungray s.wrGrayS1) s.wr u.wrC u.wr := by
  cases e with
  | operation _ _ _ _ _ _ _ hexec hu =>
    subst hu
    have hm := exec_wrC (ungray s.wrGrayS1) hexec
    exact hm
  | bookkeeping _ _ _ _ _ hu => subst hu; exact .still rfl
  | pClk pins _ hu => subst hu; exact .still (pWork_workMoves s pins).wrC
  | cClk pins _ hu => subst hu; exact .stage (congrArg ungray (cWork_workMoves s pins).wrGrayS1)
  | bothClk pins cpins pFirst _ _ _ _ _ _ hu =>
    subst hu; exact .stage (congrArg ungray (bothWork_workMoves s pins cpins pFirst).wrGrayS1)
  | resetLow _ hu => subst hu; exact .level rfl

theorem TurnEffect.rdP (e : TurnEffect t s u) : ViewMove s.rdP (ungray s.rdGrayS1) s.rd u.rdP u.rd := by
  cases e with
  | operation _ _ _ _ _ _ _ hexec hu =>
    subst hu
    have hm := exec_rdP (ungray s.rdGrayS1) hexec
    exact hm
  | bookkeeping _ _ _ _ _ hu => subst hu; exact .still rfl
  | pClk pins _ hu => subst hu; exact .stage (congrArg ungray (pWork_workMoves s pins).rdGrayS1)
  | cClk pins _ hu => subst hu; exact .still (cWork_workMoves s pins).rdP
  | bothClk pins cpins pFirst _ _ _ _ _ _ hu =>
    subst hu; exact .stage (congrArg ungray (bothWork_workMoves s pins cpins pFirst).rdGrayS1)
  | resetLow _ hu => subst hu; exact .level rfl

/-- A step that leaves `wr` does not let `wr_c` fall further behind. -/
theorem step_wrC_lag (h : s.Inv) (he : step s = .next u) (hw : u.wr = s.wr) :
    (u.wr - u.wrC).toNat ≤ (s.wr - s.wrC).toNat := by
  rcases step_effect he with rfl | ⟨t, rest, -, e⟩
  · exact le_rfl
  · have hm : ViewMove s.wrC (ungray s.wrGrayS1) s.wr u.wrC u.wr := e.wrC
    have hlag := h.ch.wrLag
    rw [hw] at hm ⊢
    exact hm.lag_le (by omega)

/-- A step that leaves `rd` does not let `rd_p` fall further behind. -/
theorem step_rdP_lag (h : s.Inv) (he : step s = .next u) (hr : u.rd = s.rd) :
    (u.rd - u.rdP).toNat ≤ (s.rd - s.rdP).toNat := by
  rcases step_effect he with rfl | ⟨t, rest, -, e⟩
  · exact le_rfl
  · have hm : ViewMove s.rdP (ungray s.rdGrayS1) s.rd u.rdP u.rd := e.rdP
    have hlag := h.ch.rdLag
    rw [hr] at hm ⊢
    exact hm.lag_le (by omega)

end

/-! Runs -/

section

variable {r : Run} {n : Nat}

theorem Run.inv (h : (r.state 0).Inv) (k : Nat) : (r.state k).Inv := by
  induction k with
  | zero => exact h
  | succ k ih => exact step_inv (ih.withTurns _) (r.steps k)

/-- How far a view lags at a moment of a run. -/
def Run.lag (r : Run) (view owner : State → Cursor) (k : Nat) : Nat := (owner (r.state k) - view (r.state k)).toNat

theorem Run.lag_eq_zero {view owner : State → Cursor} {k : Nat} :
    r.lag view owner k = 0 ↔ view (r.state k) = owner (r.state k) := cursor_sub_zero.trans eq_comm

/-- A view that never falls further behind a settled owner, and is updated again and again while it lags, comes level and stays so:
from a moment of least lag on, an update that is still to come would have to move it. -/
theorem Run.comes_level {view owner : State → Cursor} (hfair : r.keepsUp view owner) (hset : r.settled owner n)
    (hlag : ∀ k, n ≤ k → r.lag view owner (k + 1) ≤ r.lag view owner k) :
    ∃ m, n ≤ m ∧ ∀ k, m ≤ k → view (r.state k) = owner (r.state k) := by
  have hanti : ∀ {j k}, n ≤ j → j ≤ k → r.lag view owner k ≤ r.lag view owner j := by
    intro j k hj hjk
    induction k, hjk using Nat.le_induction with
    | base => exact le_rfl
    | succ k hk ih => exact (hlag k (hj.trans hk)).trans ih
  obtain ⟨j, hleast⟩ : ∃ j, ∀ k, r.lag view owner (n + j) ≤ r.lag view owner (n + k) :=
    ⟨_, fun k => Function.argmin_le (fun k => r.lag view owner (n + k)) k⟩
  obtain ⟨m, hjm, hm⟩ := hfair (n + j)
  have hnm : n ≤ m := by omega
  have hlevel : view (r.state m) = owner (r.state m) := hm.resolve_right fun hmoves => hmoves <| by
    have hsame : r.lag view owner (m + 1) = r.lag view owner m := by
      have h1 := hleast (m + 1 - n)
      rw [Nat.add_sub_cancel' (by omega)] at h1
      exact le_antisymm (hlag m hnm) ((hanti (by omega) hjm).trans h1)
    have howner : owner (r.state (m + 1)) = owner (r.state m) := (hset _ (by omega)).trans (hset m hnm).symm
    have hdiff := BitVec.eq_of_toNat_eq hsame
    rw [howner] at hdiff
    exact sub_right_injective hdiff
  refine ⟨m, hnm, fun k hk => Run.lag_eq_zero.1 (Nat.le_zero.1 ?_)⟩
  exact (hanti hnm hk).trans (Run.lag_eq_zero.2 hlevel).le

/-- A carrier that no longer changes is seen in the end: a view of one bit that is updated is level. -/
theorem Run.carrier_comes_level (hfair : r.fair) (hset : r.settled State.carrier n) :
    ∃ m, n ≤ m ∧ (r.state m).carrierC = (r.state m).carrier := by
  obtain ⟨m, hm, hlevel | hmoves⟩ := hfair.syncc n
  · exact ⟨m, hm, hlevel⟩
  · by_cases hc : (r.state m).carrierC = (r.state m).carrier
    · exact ⟨m, hm, hc⟩
    · refine ⟨m + 1, by omega, ?_⟩
      rw [hset (m + 1) (by omega), ← hset m hm]
      exact (Bool.eq_not_of_ne hmoves).trans (Bool.eq_not_of_ne (Ne.symm hc)).symm

end

/-! The queue predicates as counts (R97) -/

section

variable {s : State}

theorem drainedP_iff : s.drainedP = true ↔ (s.wr - s.rdP).toNat = 0 := by
  rw [cursor_sub_zero]; exact beq_iff_eq

theorem fullP_iff_count : s.fullP = true ↔ (s.wr - s.rdP).toNat = 16 := by
  rw [State.fullP, beq_iff_eq, ← BitVec.toNat_inj]; rfl

theorem emptyC_iff_count : s.emptyC = true ↔ (s.wrC - s.rd).toNat = 0 := by
  rw [cursor_sub_zero]; exact beq_iff_eq

/-- With the views in order, the blocks C sees and those it does not see yet are those queued. -/
theorem State.viewsOk.occupancy_eq (h : s.viewsOk) : s.occupancy = (s.wrC - s.rd).toNat + (s.wr - s.wrC).toNat :=
  cursor_sub_trans (by unfold State.viewsOk at h; omega)

/-- With the views in order, P counts the blocks queued and those it does not know to be gone. -/
theorem State.viewsOk.outstanding_eq (h : s.viewsOk) : (s.wr - s.rdP).toNat = (s.rd - s.rdP).toNat + s.occupancy := by
  have ho := h.occupancy_eq
  unfold State.viewsOk at h
  exact cursor_sub_trans (by change _ + s.occupancy < 32; omega)

end

/-- Settles O43: the predicates are counts between cursors in order, and in a fair run a view that is behind a settled owner only
comes nearer. -/
theorem queuePredicatesErrOnTheSafeSide : Obligations.QueuePredicatesErrOnTheSafeSide := by
  refine ⟨fun s h => ?_, ⟨{ State.reset with wr := 1#5, rd := 1#5, wrC := 1#5 }, ?_⟩,
    ⟨{ State.reset with wr := 16#5, rd := 1#5, wrC := 16#5 }, ?_⟩, ⟨{ State.reset with wr := 1#5 }, ?_⟩,
    fun r n h hfair => ⟨fun hset => ?_, fun hset => ?_, r.carrier_comes_level hfair⟩⟩
  · have hout := h.outstanding_eq
    have hocc := h.occupancy_eq
    rw [drainedP_iff, fullP_iff_count, emptyC_iff_count]
    refine ⟨?_, occupancy_lt h, occupancy_pos h, fun hc => ?_, fun hc => ?_, fun hc => ?_⟩
    · omega
    · rw [hout, hc, cursor_sub_self, Nat.zero_add]
    · rw [hout, hc, cursor_sub_self, Nat.zero_add]
    · rw [hocc, hc, cursor_sub_self, Nat.add_zero]
  · unfold State.viewsOk; decide
  · unfold State.viewsOk; decide
  · unfold State.viewsOk; decide
  · refine Run.comes_level hfair.syncw hset fun k hk => ?_
    exact step_wrC_lag (s := (r.state k).withTurns (r.asked k)) ((r.inv h k).withTurns _) (r.steps k) ((hset _ (by omega)).trans (hset k hk).symm)
  · refine Run.comes_level hfair.syncr hset fun k hk => ?_
    exact step_rdP_lag (s := (r.state k).withTurns (r.asked k)) ((r.inv h k).withTurns _) (r.steps k) ((hset _ (by omega)).trans (hset k hk).symm)

end Sys2Proof.Machine
end

section
/-! R40's bound: after a SETC at most one TICK reads the old carrier. -/

namespace Sys2Proof.Machine

/-- No request to come sets the carrier or resets. -/
def State.carrierLeftAlone (s : State) : Prop := ∀ t ∈ s.turns, t.keepsCarrier = true

/-- A TICK has read the carrier as it now is, or C sees it: the next TICK will see it (R40). -/
def State.tickDone (s : State) : Prop := s.carrierC ≠ s.carrier → s.staleTick = true

theorem negBlock_silenceWf : negBlock silenceWf = silenceWf := by decide

section

variable {i : Instr} {t : Turn} {s u : State}

/-- No operation makes or takes a request. -/
theorem exec_turns (he : exec i s = .next u) : u.turns = s.turns := by
  refine (exec_crossPart he).turns.trans ?_
  cases i <;> rfl

/-- A TICK notes whether the carrier it read is the present one. -/
theorem execTick_tickDone (he : exec .tick s = .next u) : u.tickDone := by
  have hv := exec_crossPart he
  unfold State.tickDone
  rw [hv.carrierC, hv.carrier, hv.staleTick]
  exact bne_iff_ne.2

/-- An operation other than SETC and RESET leaves the carrier, and a stale view stays marked once a TICK has read it. -/
theorem exec_keepsCarrier (hk : keepsCarrier i = true) (he : exec i s = .next u) :
    u.carrier = s.carrier ∧ (s.tickDone → u.tickDone) := by
  have hv := exec_crossPart he
  cases i with
  | setc v => cases hk
  | reset => cases hk
  | tick => exact ⟨hv.carrier, fun _ => execTick_tickDone he⟩
  | syncc => exact ⟨hv.carrier, fun _ hn => absurd (hv.carrierC.trans hv.carrier.symm) hn⟩
  | _ => exact ⟨hv.carrier, fun hd hn => hv.staleTick.trans (hd (by rwa [hv.carrierC, hv.carrier] at hn))⟩

/-- The same of a turn, which stays in the list where another step comes before it. -/
theorem TurnEffect.keepsCarrier (hk : t.keepsCarrier = true) (e : TurnEffect t s u) :
    u.carrier = s.carrier ∧ (s.tickDone → u.tickDone) ∧ (u.turns = s.turns ∨ u.turns = t :: s.turns) := by
  cases e with
  | operation waiting _ _ _ hwait _ hkeep hexec hu =>
    subst hu
    obtain ⟨hc, hd⟩ := exec_keepsCarrier (hkeep hk) hexec
    exact ⟨hc, hd, hwait.imp (exec_turns hexec).trans (exec_turns hexec).trans⟩
  | bookkeeping _ _ _ _ _ hu => subst hu; exact ⟨rfl, id, .inl rfl⟩
  | pClk _ hn => cases hn.symm.trans hk
  | cClk _ hn => cases hn.symm.trans hk
  | bothClk _ _ _ _ _ _ hn => cases hn.symm.trans hk
  | resetLow hn => cases hn.symm.trans hk

/-- The same of a step; the requests that are left are among those that were there. -/
theorem step_keepsCarrier (hk : s.carrierLeftAlone) (he : step s = .next u) :
    u.carrierLeftAlone ∧ u.carrier = s.carrier ∧ (s.tickDone → u.tickDone) := by
  rcases step_effect he with rfl | ⟨t, rest, ht, e⟩
  · exact ⟨hk, rfl, id⟩
  · have hall : ∀ x ∈ t :: rest, x.keepsCarrier = true := fun x hx => hk x (ht ▸ hx)
    obtain ⟨hc, hd, hturns⟩ := e.keepsCarrier (hall t List.mem_cons_self)
    refine ⟨fun x hx => hall x ?_, hc, hd⟩
    rcases hturns with h | h <;> rw [h] at hx
    · exact List.mem_cons_of_mem t hx
    · exact hx

theorem runSteps_keepsCarrier {n : Nat} (hk : s.carrierLeftAlone) (he : runSteps n s = .next u) :
    u.carrierLeftAlone ∧ u.carrier = s.carrier ∧ (s.tickDone → u.tickDone) := by
  induction n generalizing s with
  | zero => cases he; exact ⟨hk, rfl, id⟩
  | succ n ih =>
    obtain ⟨x, hx, hrest⟩ := andThen_eq_next.1 he
    obtain ⟨hkx, hcx, hdx⟩ := step_keepsCarrier hk hx
    obtain ⟨hku, hcu, hdu⟩ := ih hkx hrest
    exact ⟨hku, hcu.trans hcx, hdu ∘ hdx⟩

/-- A step that is a TICK of C performs it on the state as it stands, and no SYNCC of X was due. -/
theorem isTickStep_exec (h : isTickStep s u) :
    s.carrierDue = false ∧ ∃ n, exec .tick ((s.withTurns u.turns).withChoice n) = .next u := by
  obtain ⟨n, ht, he⟩ := h
  have hdecode : decode (encode .tick) = .ok .tick := by decide
  rw [step_of_turns ht] at he
  rcases performOp_cases .consumer (encode .tick) n (s.withTurns u.turns) with
    ⟨r, e⟩ | ⟨i, -, hwho, -⟩ | ⟨-, -, -, -, e⟩ | ⟨i, hd, -, -, -, hx, e⟩
  · cases e.symm.trans he
  · cases hwho
  · have hu := Host.Outcome.next.inj (e.symm.trans he)
    exact absurd (congrArg State.turns hu) (List.cons_ne_self _ _)
  · cases hdecode.symm.trans hd
    exact ⟨(mustCross_tick s).symm.trans hx, n, e.symm.trans he⟩

/-- A TICK where C sees no block emits the fallback block of the carrier it reads (R116, R119). -/
theorem execTick_fallback {v : Bool} (hc : s.carrierC = v) (hempty : s.wrC = s.rd) (he : exec .tick s = .next u) :
    u.seqState = (if v then .carrierIdle else .silent) ∧
    u.out = .emitted (if v then
      (if s.lastSense then (render s.params .idle).b else (render s.params .idle).a) else silenceWf) true := by
  rcases execTick_cases s with ⟨hn, _⟩ | ⟨_, h1, e⟩ | ⟨_, h0, e⟩
  · exact absurd hempty (emptyC_iff.1 hn)
  · cases hc.symm.trans h1
    cases e.symm.trans he
    exact ⟨rfl, rfl⟩
  · cases hc.symm.trans h0
    cases e.symm.trans he
    refine ⟨rfl, ?_⟩
    show Output.emitted (if s.lastSense then negBlock silenceWf else silenceWf) true = _
    rw [negBlock_silenceWf, ite_self]
    rfl

end

/-- Settles O31: a SETC may leave the view stale and unmarked, a TICK marks it, steps that leave the carrier alone keep the mark, and a
TICK is not performed where the view is stale and marked. -/
theorem carrierIsStaleForAtMostOneTick : Obligations.CarrierIsStaleForAtMostOneTick := by
  refine ⟨fun s h => ⟨_, execSyncc_of_lag h, rfl, rfl⟩, ?_⟩
  intro s s1 a b c d v m n hset hturns ha hab hbc hcd
  obtain ⟨-, rfl⟩ := (execSetc_next s).1 hset
  obtain ⟨hka, hca, -⟩ := runSteps_keepsCarrier hturns ha
  obtain ⟨-, na, htick⟩ := isTickStep_exec hab
  obtain ⟨-, -, hstep⟩ := hab
  obtain ⟨hkb, hcb, -⟩ := step_keepsCarrier hka hstep
  obtain ⟨-, hcc, hdc⟩ := runSteps_keepsCarrier hkb hbc
  obtain ⟨hdue, nc, hsecond⟩ := isTickStep_exec hcd
  have hcarrier : c.carrier = v := hcc.trans (hcb.trans hca)
  have hview : c.carrierC = v := by
    by_contra hn
    have hlag : c.carrierC ≠ c.carrier := hcarrier ▸ hn
    exact absurd (carrierDue_iff.2 ⟨hdc (execTick_tickDone htick) hlag, hlag⟩) (by simp [hdue])
  exact ⟨hview, fun hempty => execTick_fallback (s := (c.withTurns d.turns).withChoice nc) hview hempty hsecond⟩

end Sys2Proof.Machine
end

section
/-! The gray code of a cursor (R55): its bits and those of its inverse, the one-bit steps and the printed table. -/

namespace Sys2Proof.Machine

theorem gray_bit (b : Cursor) (i : Nat) : (gray b).getLsbD i = (b.getLsbD i ^^ b.getLsbD (i + 1)) := by
  rw [gray, BitVec.getLsbD_xor, BitVec.getLsbD_ushiftRight, Nat.add_comm]

/-- R55's recursion on bits is `gray_bit` read backwards, `gray` being a left inverse of `ungray`. -/
theorem ungray_bit (g : Cursor) (i : Nat) : (ungray g).getLsbD i = (g.getLsbD i ^^ (ungray g).getLsbD (i + 1)) := by
  have h := gray_bit (ungray g) i
  rw [gray_ungray] at h
  rw [h, Bool.xor_assoc, Bool.xor_self, Bool.xor_false]

/-- Above the top bit there is none to take the xor with. -/
theorem ungray_top_bit (g : Cursor) : (ungray g).getLsbD 4 = g.getLsbD 4 := by
  rw [ungray_bit, BitVec.getLsbD_of_ge (ungray g) (4 + 1) (by decide), Bool.xor_false]

/-- The bits at which the codes of a cursor and of its successor differ. -/
def grayChanges (b : Cursor) : List Nat :=
  (List.range 5).filter fun i => (gray b).getLsbD i != (gray (b + 1#5)).getLsbD i

/-- The successor is modulo 32, so the wrap from 31 to 0 is among the cases. -/
theorem grayChanges_length (b : Cursor) : (grayChanges b).length = 1 := by
  revert b; decide

/-- Settles O11: the formula is the definition of `gray`, the printed table is computed,
and each other sentence of R55 is a lemma. -/
theorem grayCodeTableAndTests : Obligations.GrayCodeTableAndTests := by
  refine ⟨fun b => ?formula, fun g => ?bits, fun b => ?inverse, fun b => ?oneBit, fun w r => ?equal, fun w r => ?opposite, ?table⟩
  case formula => rfl
  case bits => exact ⟨ungray_top_bit g, fun i => ungray_bit g i.val⟩
  case inverse => exact ⟨ungray_gray b, gray_ungray b⟩
  case oneBit => exact grayChanges_length b
  case equal => exact gray_inj.symm
  case opposite => exact gray_opposite w r
  case table => decide

end Sys2Proof.Machine
end

section
/-! The cached variants (R86): every sample of variant A comes from the tone ROM, so its negation is exact. -/

namespace Sys2Proof.Machine

/-- R86: a sample is "a tone ROM entry or its negation or 0". -/
def FromRom (p : Params) (x : Sample) : Prop :=
  x = 0#16 ∨ ∃ y, (y ∈ p.tone0.toList ∨ y ∈ p.tone1.toList) ∧ (x = y ∨ x = -y)

section

variable {p : Params}

theorem wave_fromRom {b : Byte} {x : Sample} (hx : x ∈ (wave p b).toList) : FromRom p x := by
  rw [wave_toList, List.mem_append] at hx
  rcases hx with hstart | hrest
  · exact .inr ⟨x, .inr hstart, .inl rfl⟩
  · exact .inr (emitSlots_mem p _ _ hrest)

theorem silenceWf_fromRom {x : Sample} (hx : x ∈ silenceWf.toList) : FromRom p x :=
  .inl (List.eq_of_mem_replicate hx)

theorem idleWf_fromRom (k : Fin 120) : FromRom p (idleWf p)[k] := by
  have hmem : p.tone0[k.val % 10] ∈ p.tone0.toList := by simp
  rw [idleWf_getElem]
  split
  · exact .inr ⟨_, .inl hmem, .inl rfl⟩
  · exact .inr ⟨_, .inl hmem, .inr rfl⟩

theorem variantA_fromRom (y : Symbol) (k : Fin 120) : FromRom p (variantA p y)[k] := by
  cases y with
  | byte b => exact wave_fromRom (b := b) (by simp [variantA])
  | silence => exact silenceWf_fromRom (by simp [variantA])
  | idle => exact idleWf_fromRom k

/-- T2 of R74, by membership. -/
theorem ToneOk.bounds_of_mem (h : ToneOk p) {x : Sample} (hx : x ∈ p.tone0.toList ∨ x ∈ p.tone1.toList) :
    -30000 ≤ x.toInt ∧ x.toInt ≤ 30000 := by
  rcases hx with hx | hx <;> obtain ⟨i, hi, rfl⟩ := Vector.mem_iff_getElem.1 (Vector.mem_toList_iff.1 hx)
  · exact (h.t2 ⟨i, hi⟩).1
  · exact (h.t2 ⟨i, hi⟩).2

theorem FromRom.bounds {x : Sample} (hx : FromRom p x) (h : ToneOk p) : -30000 ≤ x.toInt ∧ x.toInt ≤ 30000 := by
  rcases hx with rfl | ⟨y, hy, rfl | rfl⟩
  · decide
  · exact h.bounds_of_mem hy
  · obtain ⟨hlo, hhi⟩ := h.bounds_of_mem hy
    rw [toInt_neg_of_bounds hlo]
    omega

end

theorem negBlock_negBlock (blk : Block) : negBlock (negBlock blk) = blk :=
  Vector.ext fun k hk => by rw [neg_getElem, neg_getElem, neg_neg]

/-- Sample `k` of variant B, as a bit pattern. -/
theorem render_b_getElem (p : Params) (y : Symbol) (k : Fin 120) : (render p y).b[k] = -(render p y).a[k] :=
  neg_getElem _ k.val k.isLt

/-- Settles O37: the samples of variant A are bounded because they come from the ROM, and a bounded sample is not the one pattern whose
negation overflows. -/
theorem variantsAreExactNegations : Obligations.VariantsAreExactNegations := by
  refine ⟨fun p y h k => ?_, negBlock_negBlock, BitVec.neg_zero 16⟩
  obtain ⟨hlo, hhi⟩ := (variantA_fromRom y k).bounds h
  rw [render_b_getElem]
  exact ⟨toInt_neg_of_bounds hlo, hlo, hhi, BitVec.toNat_neg _⟩

end Sys2Proof.Machine
end

section
/-! The fold of R90: the phase a list of FETCHes leaves, and the variant each of them returns. -/

namespace Sys2Proof.Machine

/-- `lastSense` after FETCHes of the given symbols: its value before, xor their flags (R90). -/
def senseAfter (p : Params) (x : Bool) (ys : List Symbol) : Bool :=
  ys.foldl (fun x y => phaseAfter x (render p y).cont) x

/-- FETCHes made in order from phase `x` leave phase `x'`, and each returned the variant that the flags before it select (R90). -/
structure FoldsFlags (p : Params) (x : Bool) (es : List (Symbol × Block)) (x' : Bool) : Prop where
  final : x' = senseAfter p x (es.map Prod.fst)
  block : ∀ (k : Nat) (h : k < es.length), es[k].2 = variantOf (render p es[k].1) (senseAfter p x ((es.map Prod.fst).take k))

section

variable {p : Params} {x x' : Bool} {es : List (Symbol × Block)}

theorem FoldsFlags.nil : FoldsFlags p x [] x := ⟨rfl, fun _ h => absurd h (Nat.not_lt_zero _)⟩

/-- One more FETCH before the others. -/
theorem FoldsFlags.cons {y : Symbol} (h : FoldsFlags p (phaseAfter x (render p y).cont) es x') :
    FoldsFlags p x ((y, variantOf (render p y) x) :: es) x' := by
  refine ⟨h.final, fun k hk => ?_⟩
  cases k with
  | zero => rfl
  | succ k => exact h.block k (Nat.lt_of_succ_lt_succ hk)

/-- The fold read off the FETCHes themselves. -/
theorem senseAfter_map_fst (p : Params) (x : Bool) (es : List (Symbol × Block)) :
    senseAfter p x (es.map Prod.fst) = es.foldl (fun x e => x ^^ (render p e.1).cont) x := List.foldl_map

/-- Operations other than RESET change `lastSense` by the FETCHes among them alone. -/
theorem runFetching_foldsFlags {is : List Instr} (s : State) (hreset : ∀ i ∈ is, i ≠ .reset) :
    FoldsFlags s.params s.lastSense (runFetching is s).1 (runFetching is s).2.lastSense := by
  induction is generalizing s with
  | nil => exact .nil
  | cons i is ih =>
    obtain ⟨hi, his⟩ := List.forall_mem_cons.1 hreset
    cases he : exec i s with
    | fault r => cases r
    | refused r => rw [runFetching_refused s is he]; exact ih s his
    | next t =>
      rw [runFetching_next s is he]
      have hrest := ih t his
      obtain ⟨hparams, ⟨hnone, hsense⟩ | ⟨y, hfetch, hsense⟩⟩ := fetchOf_cases hi he <;> rw [hparams, hsense] at hrest
      · rw [hnone]
        exact hrest
      · rw [hfetch]
        exact hrest.cons

theorem execFetch_code (s : State) (y : Symbol) :
    exec (.fetch (symbolCode y)) s = .next { (s.fetch y).2 with dataPath := (s.fetch y).1, out := .returned (s.fetch y).1 } := by
  simp only [exec, execFetch, symbolOf_code]

/-- FETCHes of valid symbols are all performed: each shows its block, and is one entry of the list of FETCHes. -/
theorem runShowing_fetches (ys : List Symbol) (s : State) :
    (runFetching (ys.map fun y => .fetch (symbolCode y)) s).1.map Prod.fst = ys ∧
    runShowing (ys.map fun y => .fetch (symbolCode y)) s =
      ((runFetching (ys.map fun y => .fetch (symbolCode y)) s).1.map (fun e => .returned e.2),
       (runFetching (ys.map fun y => .fetch (symbolCode y)) s).2) := by
  induction ys generalizing s with
  | nil => exact ⟨rfl, rfl⟩
  | cons y ys ih =>
    have he := execFetch_code s y
    obtain ⟨hsyms, hshown⟩ := ih { (s.fetch y).2 with dataPath := (s.fetch y).1, out := .returned (s.fetch y).1 }
    simp only [List.map_cons, runFetching_next s _ he, runShowing, he, hshown, fetchOf, symbolOf_code, Option.bind_some,
      Option.toList_some, List.singleton_append, hsyms, and_self]

end

/-- Settles O39: `runFetching_foldsFlags` is its first half; the second is the same fact of a list of FETCHes alone, each of which shows
the block it returns. -/
theorem lastSenseIsAFoldOfFlags : Obligations.LastSenseIsAFoldOfFlags := by
  refine ⟨fun s is hreset => ?_, fun s ys => ?_⟩
  · have hfold := runFetching_foldsFlags s hreset
    refine ⟨?_, fun k hk => ?_⟩ <;> beta_reduce
    · rw [List.take_length, ← senseAfter_map_fst]
      exact hfold.final
    · rw [← senseAfter_map_fst, List.map_take]
      exact hfold.block k hk
  · have hreset : ∀ i ∈ ys.map (fun y => Instr.fetch (symbolCode y)), i ≠ .reset := by simp
    have hfold := runFetching_foldsFlags s hreset
    obtain ⟨hsyms, hshown⟩ := runShowing_fetches ys s
    rw [hshown]
    generalize runFetching (ys.map fun y => .fetch (symbolCode y)) s = run at hfold hsyms
    subst hsyms
    refine ⟨?_, List.ext_getElem (by simp) fun k hk _ => ?_⟩
    · beta_reduce
      rw [List.take_length]
      exact hfold.final
    · rw [List.length_map] at hk
      simp only [List.getElem_map, List.getElem_zipWith, List.getElem_range]
      exact congrArg Output.returned (hfold.block k hk)

end Sys2Proof.Machine
end

section
/-! TICK and the decision table of R116: the FETCH of each fallback block, the rows, and `seqState` as no input. -/

namespace Sys2Proof.Machine

/-- Silence ends on a zero, which counts as non-negative (R87). -/
theorem contFlag_silenceWf : contFlag silenceWf = true := by decide

/-- Idle-carrier ends on the negation of the last sample of TONE0, which T3 makes positive (R74, R76). -/
theorem contFlag_idleWf {p : Params} (h : ToneOk p) : contFlag (idleWf p) = false := by
  have hlast : (idleWf p)[119] = -p.tone0[9] := idleWf_getElem p 119
  have hpos : 0 < p.tone0[9].toInt := h.t3.2
  have hneg : (-p.tone0[9]).toInt = -p.tone0[9].toInt := toInt_neg_of_bounds (by omega)
  show decide ((0#16).toInt ≤ (idleWf p)[119].toInt) = false
  rw [hlast, hneg, BitVec.toInt_zero, decide_eq_false_iff_not]
  omega

section

variable (s : State)

/-- Both variants of silence are the same block, so the phase does not matter (R75, R86). -/
theorem State.fetch_silence_block : (s.fetch .silence).1 = silenceWf := by
  show (if s.lastSense then negBlock silenceWf else silenceWf) = silenceWf
  rw [negBlock_silenceWf, ite_self]

theorem State.fetch_silence_lastSense : (s.fetch .silence).2.lastSense = !s.lastSense := by
  show (s.lastSense ^^ contFlag silenceWf) = !s.lastSense
  rw [contFlag_silenceWf, Bool.xor_true]

theorem State.fetch_idle_lastSense (h : ToneOk s.params) : (s.fetch .idle).2.lastSense = s.lastSense := by
  show (s.lastSense ^^ contFlag (idleWf s.params)) = s.lastSense
  rw [contFlag_idleWf h, Bool.xor_false]

/-- The output state is chosen afresh and overwrites the previous one (R116, R117). -/
theorem State.emitBlock_withSeqState (q : SeqState) : ({ s with seqState := q } : State).emitBlock = s.emitBlock := by
  have hchoice : ({ s with seqState := q } : State).outputState = s.outputState := rfl
  unfold State.emitBlock
  rw [hchoice]
  cases s.outputState <;> rfl

theorem execTick_withSeqState (q : SeqState) : exec .tick { s with seqState := q } = exec .tick s := by
  have hemit : ({ s with seqState := q } : State).noteCarrier.emitBlock = s.noteCarrier.emitBlock :=
    s.noteCarrier.emitBlock_withSeqState q
  show execTick { s with seqState := q } = execTick s
  unfold execTick
  rw [hemit]

end

/-- TICK can enter each output state: with a block in C's view, and with none under either carrier. -/
theorem exists_execTick_entering (b : SeqState) : ∃ s t, exec .tick s = .next t ∧ t.seqState = b := by
  cases b with
  | draining => exact ⟨{ State.reset with wrC := 1#5 }, _, rfl, rfl⟩
  | carrierIdle => exact ⟨{ State.reset with carrierC := true }, _, rfl, rfl⟩
  | silent => exact ⟨State.reset, _, rfl, rfl⟩

/-- Settles O27: `execTick_cases` is the table row by row; and as the previous `seqState` is no input, a state from which TICK enters `b`
can be given any `a`. -/
theorem tickFollowsTheDecisionTable : Obligations.TickFollowsTheDecisionTable := by
  refine ⟨fun s => ?rows, execTick_withSeqState, fun a b => ?anyAfterAny⟩
  case rows =>
    rcases execTick_cases s with ⟨hsees, e⟩ | ⟨hempty, hon, e⟩ | ⟨hempty, hoff, e⟩
    · have hne : s.wrC ≠ s.rd := emptyC_iff.1 hsees
      exact ⟨_, _, e, rfl, fun _ => ⟨rfl, rfl, rfl, rfl⟩, fun h => absurd h hne, fun h => absurd h hne⟩
    · have heq : s.wrC = s.rd := beq_iff_eq.1 hempty
      exact ⟨_, _, e, rfl, fun h => absurd heq h, fun _ _ => ⟨rfl, rfl, rfl, s.fetch_idle_lastSense⟩,
        fun _ hoff => absurd (hoff.symm.trans hon) Bool.false_ne_true⟩
    · have heq : s.wrC = s.rd := beq_iff_eq.1 hempty
      exact ⟨_, _, e, rfl, fun h => absurd heq h, fun _ hon => absurd (hoff.symm.trans hon) Bool.false_ne_true,
        fun _ _ => ⟨rfl, s.fetch_silence_block, rfl, s.fetch_silence_lastSense⟩⟩
  case anyAfterAny =>
    obtain ⟨s, t, htick, hstate⟩ := exists_execTick_entering b
    exact ⟨{ s with seqState := a }, t, rfl, (execTick_withSeqState s a).trans htick, hstate⟩

end Sys2Proof.Machine
end

section
/-! Errors (R135 to R138): which answer each refused operation gives, and that the answer is all that differs. -/

namespace Sys2Proof.Machine

section

variable {s : State} {w : OpWord} {arg : SymCode}

/-- SEND's operand is checked first, whether or not the queue is full (R122, R138). -/
theorem execSend_badSym (hh : s.hold = none) (ha : arg[8] = true) :
    exec (.send arg) s = .next (s.raisePort .badSym) := by
  rcases execSend_cases s arg with ⟨hclosed, _⟩ | ⟨_, _, e⟩ | ⟨b, _, hb, _⟩ | ⟨b, _, hb, _⟩
  · simp [hh] at hclosed
  · exact e
  · simp [byteOf_none ha] at hb
  · simp [byteOf_none ha] at hb

/-- A byte that P sees no room for is answered FULL (R99, R122). -/
theorem execSend_full (hh : s.hold = none) (ha : arg[8] = false) (hf : s.fullP = true) :
    exec (.send arg) s = .next (s.raisePort .full) := by
  rcases execSend_cases s arg with ⟨hclosed, _⟩ | ⟨_, hb, _⟩ | ⟨b, _, _, _, e⟩ | ⟨b, _, _, hroom, _⟩
  · simp [hh] at hclosed
  · simp [byteOf_some ha] at hb
  · exact e
  · simp [hf] at hroom

/-- Codes from `0x102` on name no symbol (R53). -/
theorem symbolOf_eq_none {sym : SymCode} (h : 0x102 ≤ sym.toNat) : symbolOf sym = none := by
  have hbyte : ¬ sym.toNat < 0x100 := by omega
  have hsilence : sym ≠ Config.symSilence := by rintro rfl; exact absurd h (by decide)
  have hidle : sym ≠ Config.symIdle := by rintro rfl; exact absurd h (by decide)
  rw [symbolOf, if_neg hbyte, if_neg hsilence, if_neg hidle]

theorem execFetch_badSym {sym : SymCode} (s : State) (h : symbolOf sym = none) :
    exec (.fetch sym) s = .next (s.raiseInner .badSym) :=
  ((execFetch_cases s sym).resolve_right fun ⟨_, hy, _⟩ => by simp [h] at hy).2

theorem execBuild_badSym {sym : SymCode} (s : State) (h : symbolOf sym = none) :
    exec (.build sym) s = .next (s.raiseInner .badSym) :=
  ((execBuild_cases s sym).resolve_right fun ⟨_, hy, _⟩ => by simp [h] at hy).2

theorem execAdvr_empty (h : s.emptyC = true) : exec .advr s = .next (s.raiseInner .empty) :=
  ((execAdvr_cases s).resolve_right fun ⟨hsees, _⟩ => by simp [h] at hsees).2

theorem execPeek_empty (h : s.emptyC = true) : exec .peek s = .next (s.answer (.status .empty)) :=
  ((execPeek_cases s).resolve_right fun ⟨hsees, _⟩ => by simp [h] at hsees).2

/-- A reserved word and the word of an internal operation are answered BADCMD (R61). -/
theorem portCommand_badCmd (h : (∃ e, decode w = .error e) ∨ ∃ i, decode w = .ok i ∧ isPortOp i = false) :
    portCommand w s = .next (s.raisePort .badCmd) := by
  rcases h with ⟨e, hd⟩ | ⟨i, hd, hp⟩
  · simp only [portCommand, hd]
  · simp [portCommand, hd, hp]

theorem portCommand_exec {i : Instr} (hd : decode w = .ok i) (hp : isPortOp i = true) : portCommand w s = exec i s := by
  simp only [portCommand, hd, if_pos hp]

/-- The port's own operations need nothing but the port to be open. -/
theorem exec_portOp {i : Instr} (s : State) (hp : isPortOp i = true) : ∃ k, exec i s = s.portOpen k := by
  cases i with
  | send arg => exact ⟨_, rfl⟩
  | setc v => exact ⟨_, rfl⟩
  | isdr => exact ⟨_, rfl⟩
  | _ => cases hp

/-- Every word offered on the open port is answered (R61, R172). -/
theorem portCommand_completes (w : OpWord) (hh : s.hold = none) : ∃ t, portCommand w s = .next t := by
  cases hd : decode w with
  | error e => exact ⟨_, portCommand_badCmd (.inl ⟨e, hd⟩)⟩
  | ok i =>
    cases hp : isPortOp i with
    | false => exact ⟨_, portCommand_badCmd (.inr ⟨i, hd, hp⟩)⟩
    | true =>
      obtain ⟨k, hk⟩ := exec_portOp s hp
      exact ⟨k, (portCommand_exec hd hp).trans (hk.trans (portOpen_of_none hh))⟩

end

/-- Settles O14: the operand's check comes before the full test, and a word that is no command of the port reaches neither. -/
theorem errorPriorityOnThePort : Obligations.ErrorPriorityOnThePort := by
  intro s w rest ht hr hh
  have hopen : (s.withTurns rest).hold = none := hh
  obtain ⟨t, hanswer⟩ := portCommand_completes w hopen
  have shows : ∀ st, portCommand w (s.withTurns rest) = .next ((s.withTurns rest).raisePort st) →
      ∃ r, t.out = .response r ∧ r.extractLsb' 0 3 = st.code := by
    intro st e
    cases hanswer.symm.trans e
    exact ⟨_, rfl, (responseWord_fields st _ _).1⟩
  refine ⟨t, (step_port ht hr hh).trans hanswer, fun hbad => ?badCmd, fun arg hd ha => ?badSym, fun arg hd ha hf => ?full⟩
  case badCmd => exact shows .badCmd (portCommand_badCmd hbad)
  case badSym => exact shows .badSym ((portCommand_exec hd rfl).trans (execSend_badSym hopen ha))
  case full => exact shows .full ((portCommand_exec hd rfl).trans (execSend_full hopen ha hf))

/-- Settles O15: each of these ends in `raisePort`, `raiseInner` or PEEK's EMPTY, which write `out` alone. -/
theorem errorsChangeNothing : Obligations.ErrorsChangeNothing := by
  refine ⟨fun s arg hh herr => ?send, fun s sym h => ?malformed, fun s hf => ?enq, fun s he => ?empty,
    fun s w rest ht hr hh hbad => ?badCmd⟩
  case send =>
    cases ha : arg[8] with
    | true => exact ⟨_, execSend_badSym hh ha, rfl⟩
    | false => exact ⟨_, execSend_full hh ha (herr.resolve_left (by simp [ha])), rfl⟩
  case malformed => exact ⟨execFetch_badSym s (symbolOf_eq_none h), execBuild_badSym s (symbolOf_eq_none h)⟩
  case enq =>
    rcases execEnq_cases s with ⟨_, _, e⟩ | ⟨_, hroom, _⟩ | ⟨hheld, _, e⟩ | ⟨blk, _, hroom, _⟩
    · exact ⟨_, e, fun _ => rfl⟩
    · simp [hf] at hroom
    · exact ⟨_, e, fun hh => by simp [hh] at hheld⟩
    · simp [hf] at hroom
  case empty => exact ⟨execAdvr_empty he, execPeek_empty he⟩
  case badCmd => exact (step_port ht hr hh).trans (portCommand_badCmd hbad)

end Sys2Proof.Machine
end

section
/-! Runs without a meaning (R141): what each agent, each edge and the caller is refused. -/

namespace Sys2Proof.Machine

section

variable {s : State}

/-- A caller besides the four agents has no row in R145. -/
theorem mayIssue_other (i : Instr) : mayIssue .other i = false := by
  cases i <;> rfl

/-- C has no right to P's operations (R145). -/
theorem mayIssue_consumer {i : Instr} (h : i = .enq ∨ i = .isdr ∨ (∃ v, i = .setc v) ∨ ∃ arg, i = .send arg) :
    mayIssue .consumer i = false := by
  rcases h with rfl | rfl | ⟨v, rfl⟩ | ⟨arg, rfl⟩ <;> rfl

/-- P has no right to C's operations (R145). -/
theorem mayIssue_producer {i : Instr} (h : i = .peek ∨ i = .advr ∨ i = .tick) : mayIssue .producer i = false := by
  rcases h with rfl | rfl | rfl <;> rfl

/-- An operation turn of an agent without the right to it is refused, whatever the state. -/
theorem step_notPermitted {who : Agent} {w : OpWord} {n : Nat} {rest : List Turn} {i : Instr}
    (ht : s.turns = .op who w n :: rest) (hd : decode w = .ok i) (hm : mayIssue who i = false) :
    step s = .refused .notPermitted := by
  rw [step_of_turns ht]
  simp [runTurn, performOp, hd, hm]

/-- Before `ready` no edge takes a command (R24, R141 (c)). -/
theorem pEdge_notReady {pins : PPins} (x : Cursor) (hv : pins.valid = true) (hr : s.ready = false) :
    pEdge pins x s = .refused .notReady := by
  simp [pEdge, hv, hr]

/-- Before `ready` no edge takes a tick (R24, R141 (c)). -/
theorem cEdge_notReady {pins : CPins} (x : Cursor) (v : Bool) (hk : pins.tick = true) (hr : s.ready = false) :
    cEdge pins x v s = .refused .notReady := by
  simp [cEdge, hk, hr]

/-- No edge takes a tick during an emission (R66, R141 (c)). -/
theorem cEdge_busy {pins : CPins} (x : Cursor) (v : Bool) (hk : pins.tick = true) (hr : s.ready = true)
    (hb : s.busy = true) : cEdge pins x v s = .refused .tickWhileBusy := by
  simp [cEdge, hk, hr, hb]

theorem bothEdges_notReady {pins : PPins} {cpins : CPins} (cross : CrossChoice)
    (h : pins.valid = true ∨ cpins.tick = true) (hr : s.ready = false) :
    bothEdges pins cpins cross s = .refused .notReady := by
  rcases h with h | h <;> simp [bothEdges, h, hr]

theorem bothEdges_busy (pins : PPins) {cpins : CPins} (cross : CrossChoice) (hk : cpins.tick = true)
    (hr : s.ready = true) (hb : s.busy = true) : bothEdges pins cpins cross s = .refused .tickWhileBusy := by
  simp [bothEdges, hk, hr, hb]

/-- The producer port is P's alone (R141 (a)). -/
theorem offerWord_notPermitted {who : Agent} (w : OpWord) (hw : who ≠ .producer) :
    offerWord who w s = .refused .notPermitted := by
  simp [offerWord, hw]

theorem offerWord_notReady (w : OpWord) (hr : s.ready = false) : offerWord .producer w s = .refused .notReady := by
  simp [offerWord, hr]

/-- SEND_BYTES spins on the port, so it is P's alone (R141 (d)). -/
theorem runTurn_sendBytes_notPermitted {who : Agent} (bytes : List Byte) (hw : who ≠ .producer) :
    runTurn (.sendBytes who bytes) s = .refused .notPermitted := by
  simp [runTurn, hw]

end

/-- Settles O18: the rights of R145 for operation turns, then the guards of each edge, of the port and of SEND_BYTES. -/
theorem meaninglessRunsAreRefused : Obligations.MeaninglessRunsAreRefused := by
  intro s rest
  refine ⟨?second, ?secondPort, ?consumer, ?producer, ?tickBusy, ?tickNotReady, ?wordNotReady, ?bothBusy, ?bothNotReady,
    ?portNotReady, ?sendBytes⟩
  case second => exact fun w n i ht hd => step_notPermitted ht hd (mayIssue_other i)
  case secondPort => exact fun w ht => (step_of_turns ht).trans (offerWord_notPermitted w (by decide))
  case consumer => exact fun w n i ht hd hi => step_notPermitted ht hd (mayIssue_consumer hi)
  case producer => exact fun w n i ht hd hi => step_notPermitted ht hd (mayIssue_producer hi)
  case tickBusy => exact fun pause ht hr hb => (step_of_turns ht).trans (cEdge_busy _ _ rfl hr hb)
  case tickNotReady => exact fun pause ht hr => (step_of_turns ht).trans (cEdge_notReady _ _ rfl hr)
  case wordNotReady => exact fun w ht hr => (step_of_turns ht).trans (pEdge_notReady _ rfl hr)
  case bothBusy => exact fun pins pause cross ht hr hb => (step_of_turns ht).trans (bothEdges_busy pins cross rfl hr hb)
  case bothNotReady => exact fun pins cpins cross ht hr h => (step_of_turns ht).trans (bothEdges_notReady cross h hr)
  case portNotReady => exact fun w ht hr => (step_of_turns ht).trans (offerWord_notReady w hr)
  case sendBytes => exact fun who bytes ht hw => (step_of_turns ht).trans (runTurn_sendBytes_notPermitted bytes hw)

end Sys2Proof.Machine
end

section
/-! The invariant (R27) and what it gives: counts behind the cursors, and tests on gray codes that are the tests on cursors. -/

namespace Sys2Proof.Machine

/-- Settles O4: whatever the turn does keeps the invariant (`TurnEffect.inv`). -/
theorem stepKeepsInvariant : Obligations.StepKeepsInvariant := fun _ _ h he => step_inv h he

/-- Settles O3: every initial state meets the invariant. -/
theorem invariantHoldsAtReset : Obligations.InvariantHoldsAtReset := initial_inv _ _

section

variable {s u : State} {t : Turn}

/-- The order of R27 with the first synchroniser stages left out. -/
theorem State.Inv.viewsOk (h : s.Inv) : s.viewsOk := by
  have hle := h.ch.le
  have hrd := h.ch.rdLag
  have hwr := h.ch.wrLag
  unfold State.viewsOk
  omega

/-- A cursor is another one moved on by their difference, modulo 32. -/
theorem cursor_toNat_eq (x y : Cursor) : y.toNat = (x.toNat + (y - x).toNat) % 32 := by bv_omega

/-- Counting on from `rd_p` by the differences between neighbours gives the counts of R27. -/
theorem State.viewsOk.countsOk (h : s.viewsOk) : s.countsOk := by
  have hrd := cursor_toNat_eq s.rdP s.rd
  have hwc := cursor_toNat_eq s.rd s.wrC
  have hwr := cursor_toNat_eq s.wrC s.wr
  have hlt := s.rdP.isLt
  unfold State.viewsOk at h
  exact ⟨s.rdP.toNat, s.rdP.toNat + (s.rd - s.rdP).toNat, s.rdP.toNat + (s.rd - s.rdP).toNat + (s.wrC - s.rd).toNat,
    s.rdP.toNat + (s.rd - s.rdP).toNat + (s.wrC - s.rd).toNat + (s.wr - s.wrC).toNat,
    by omega, by omega, by omega, by omega, by omega, by omega, by omega, by omega⟩

/-- No operation writes the parameters, RESET included (R13). -/
theorem exec_params {i : Instr} (he : exec i s = .next u) : u.params = s.params := by
  by_cases hi : i = .reset
  · subst hi; cases he; rfl
  · exact (fetchOf_cases hi he).1

theorem pWork_params (s : State) (pins : PPins) : (s.pWork pins).params = s.params := by
  obtain ⟨h, -⟩ := pWork_moves s pins
  exact h

theorem cWork_params (s : State) (pins : CPins) : (s.cWork pins).params = s.params := by
  obtain ⟨h, -⟩ := cWork_moves s pins
  exact h

theorem bothWork_params (s : State) (pins : PPins) (cpins : CPins) (pFirst : Bool) :
    (s.bothWork pins cpins pFirst).params = s.params := by
  cases pFirst with
  | true => exact (cWork_params (s.pWork pins) cpins).trans (pWork_params s pins)
  | false => exact (pWork_params (s.cWork cpins) pins).trans (cWork_params s cpins)

theorem TurnEffect.params (e : TurnEffect t s u) : u.params = s.params := by
  cases e with
  | operation waiting n b o _ _ _ hexec hu => subst hu; have hx := exec_params hexec; exact hx
  | bookkeeping b o rdy pin _ hu => subst hu; rfl
  | pClk pins _ hu => subst hu; exact pWork_params s pins
  | cClk pins _ hu => subst hu; exact cWork_params s pins
  | bothClk pins cpins pFirst x y v _ _ _ hu => subst hu; exact bothWork_params s pins cpins pFirst
  | resetLow _ hu => subst hu; rfl

theorem step_params (he : step s = .next u) : u.params = s.params := by
  rcases step_effect he with rfl | ⟨t, rest, -, e⟩
  · rfl
  · exact e.params

end

/-- Settles O5: the occupancies are sums of differences that the invariant bounds by 16. -/
theorem invariantGivesCursorCounts : Obligations.InvariantGivesCursorCounts := by
  intro s h
  have hviews := h.viewsOk
  have hocc := hviews.occupancy_eq
  have hout := hviews.outstanding_eq
  have hsum : (s.rd - s.rdP).toNat + (s.wrC - s.rd).toNat + (s.wr - s.wrC).toNat ≤ 16 := hviews
  exact ⟨hviews, hviews.countsOk, by omega, by omega, by omega, by omega⟩

/-- Settles O6: a cached record is a function of the parameters (R14), which no turn writes. -/
theorem noStepChangesRomOrCache : Obligations.NoStepChangesRomOrCache := by
  intro s t he
  have hp := step_params he
  exact ⟨hp, fun y => congrArg (render · y) hp⟩

/-- Settles O56: the gray registers hold the codes of the cursors, and the codes are told apart as the cursors are. -/
theorem grayTestsAreTheCursorTests : Obligations.GrayTestsAreTheCursorTests := fun _ h =>
  ⟨drainedGray_eq h.wrCode, fullGray_eq h.wrCode, emptyGray_eq h.rdCode⟩

end Sys2Proof.Machine
end

section
/-! The operation word (R58, R59, R61): decoding and encoding are inverse, and the table of match and mask says the same. -/

namespace Sys2Proof

section

variable {w : OpWord} {i j : Instr} {arg : SymCode}

/-- The decoder reads the word of an operation back, its operand included. -/
theorem decode_encode (i : Instr) : decode (encode i) = .ok i := by
  unfold decode encode
  rw [opidOf_append, argOf_append]
  cases i <;> simp [Instr.opid, Instr.arg, withZeroArg]

/-- A word with the opid and the operand of an operation is its word. -/
theorem encode_of_fields (ho : opidOf w = i.opid) (ha : argOf w = i.arg) : encode i = w := by
  rw [encode, ← ho, ← ha, append_fields]

/-- An operation without an operand is decoded only from the operand 0. -/
theorem encode_of_withZeroArg (ho : (opidOf w).toNat = j.opid.toNat) (ha : j.arg = 0#9)
    (h : withZeroArg (argOf w) j = .ok i) : encode i = w := by
  unfold withZeroArg at h
  split at h <;> cases h
  rename_i hz
  exact encode_of_fields (BitVec.eq_of_toNat_eq ho) (hz.trans ha.symm)

/-- SETC's operand is its bit 0 where bits 8 to 1 are 0. -/
theorem arg_setc_of_zero {arg : SymCode} (h : arg.extractLsb' 1 8 = 0#8) : arg = (Instr.setc (arg.getLsbD 0)).arg := by
  revert arg; decide

theorem encode_of_decodeSetc (ho : (opidOf w).toNat = 2) (h : decodeSetc (argOf w) = .ok i) : encode i = w := by
  unfold decodeSetc at h
  split at h <;> cases h
  rename_i hz
  exact encode_of_fields (BitVec.eq_of_toNat_eq ho) (arg_setc_of_zero hz)

/-- A word that decodes is the word of what it decodes to: row by row of R59. -/
theorem encode_of_decode (h : decode w = .ok i) : encode i = w := by
  unfold decode at h
  split at h
  case h_1 ho => cases h; exact encode_of_fields (BitVec.eq_of_toNat_eq ho) rfl
  case h_2 ho => exact encode_of_decodeSetc ho h
  case h_4 ho => cases h; exact encode_of_fields (BitVec.eq_of_toNat_eq ho) rfl
  case h_5 ho => cases h; exact encode_of_fields (BitVec.eq_of_toNat_eq ho) rfl
  case h_14 => cases h
  all_goals exact encode_of_withZeroArg (by assumption) rfl h

/-- The word of an operation as a number (R59). -/
theorem encode_toNat (i : Instr) : (encode i).toNat = i.opid.toNat * 512 + i.arg.toNat := by
  rw [encode, BitVec.toNat_append, ← Nat.shiftLeft_add_eq_or_of_lt i.arg.isLt, Nat.shiftLeft_eq]

/-! The rows of R59's table -/

/-- Each row asks for its opid in full and for operand bits that are 0. -/
theorem opRows_fields : ∀ r ∈ opRows, opidOf r.mask = 0xF#4 ∧ opidOf r.pattern = r.opid ∧ argOf r.pattern = 0#9 := by decide

/-- A row is known by its opid. -/
theorem opRows_inj : ∀ r ∈ opRows, ∀ q ∈ opRows, r.opid = q.opid → r = q := by decide

/-- A word matches a row where it has its opid and zeros where the row fixes the operand. -/
theorem matches_iff {r : OpRow} (hr : r ∈ opRows) :
    r.matches w = true ↔ opidOf w = r.opid ∧ argOf w &&& argOf r.mask = 0#9 := by
  obtain ⟨hmask, hopid, harg⟩ := opRows_fields r hr
  have hsplit : ∀ x y : OpWord, x = y ↔ opidOf x = opidOf y ∧ argOf x = argOf y := fun x y =>
    ⟨by rintro rfl; exact ⟨rfl, rfl⟩, fun ⟨h1, h2⟩ => by rw [← append_fields x, ← append_fields y, h1, h2]⟩
  have ho : opidOf (w &&& r.mask) = opidOf w := by
    rw [opidOf, BitVec.extractLsb'_and, ← opidOf, ← opidOf, hmask]
    exact BitVec.and_allOnes
  have ha : argOf (w &&& r.mask) = argOf w &&& argOf r.mask := BitVec.extractLsb'_and
  rw [OpRow.matches, beq_iff_eq, hsplit, ho, ha, hopid, harg]

/-- The row of an operation leaves the bits of its operand free. -/
theorem exists_row (i : Instr) : ∃ r ∈ opRows, r.opid = i.opid ∧ i.arg &&& argOf r.mask = 0#9 := by
  cases i with
  | send arg => exact ⟨⟨"SEND", 0x1#4, 0x0200#13, 0x1E00#13⟩, by decide, rfl, BitVec.and_zero⟩
  | build sym => exact ⟨⟨"BUILD", 0x4#4, 0x0800#13, 0x1E00#13⟩, by decide, rfl, BitVec.and_zero⟩
  | fetch sym => exact ⟨⟨"FETCH", 0x5#4, 0x0A00#13, 0x1E00#13⟩, by decide, rfl, BitVec.and_zero⟩
  | setc v => cases v <;> decide
  | _ => decide

/-- Each row with an operand it allows is an operation. -/
theorem exists_of_row : ∀ r ∈ opRows, ∀ a : SymCode, a &&& argOf r.mask = 0#9 → ∃ i : Instr, r.opid = i.opid ∧ a = i.arg := by
  have hzero : ∀ a : SymCode, a &&& argOf 0x1FFF#13 = 0#9 → a = 0#9 := fun a h => BitVec.and_allOnes.symm.trans h
  have hbit : ∀ a : SymCode, a &&& argOf 0x1FFE#13 = 0#9 → a = (Instr.setc (a.getLsbD 0)).arg := by decide
  simp only [opRows, List.forall_mem_cons]
  exact ⟨fun a _ => ⟨.send a, rfl, rfl⟩, fun a h => ⟨.setc _, rfl, hbit a h⟩, fun a h => ⟨.isdr, rfl, hzero a h⟩,
    fun a _ => ⟨.build a, rfl, rfl⟩, fun a _ => ⟨.fetch a, rfl, rfl⟩, fun a h => ⟨.enq, rfl, hzero a h⟩,
    fun a h => ⟨.peek, rfl, hzero a h⟩, fun a h => ⟨.advr, rfl, hzero a h⟩, fun a h => ⟨.tick, rfl, hzero a h⟩,
    fun a h => ⟨.reset, rfl, hzero a h⟩, fun a h => ⟨.syncw, rfl, hzero a h⟩, fun a h => ⟨.syncr, rfl, hzero a h⟩,
    fun a h => ⟨.syncc, rfl, hzero a h⟩, by simp⟩

end

/-- Settles O7: `decode_encode` and its converse, row by row. -/
theorem decodeAndEncodeAgree : Obligations.DecodeAndEncodeAgree := ⟨decode_encode, fun _ _ h => encode_of_decode h⟩

/-- Settles O8: a row is matched by the words with its opid and an operand it allows, and those are the words that decode. -/
theorem decoderFollowsOpcodeTable : Obligations.DecoderFollowsOpcodeTable := by
  refine ⟨fun w r q hr hq hmr hmq => ?oneRow, fun w i hd => ?decodes, fun w e hd r hr => ?reserved, encode_toNat⟩
  case oneRow =>
    obtain ⟨hopr, -⟩ := (matches_iff hr).1 hmr
    obtain ⟨hopq, -⟩ := (matches_iff hq).1 hmq
    exact opRows_inj r hr q hq (hopr.symm.trans hopq)
  case decodes =>
    obtain ⟨r, hr, hopid, harg⟩ := exists_row i
    refine ⟨r, hr, (matches_iff hr).2 ?_, hopid⟩
    rw [← encode_of_decode hd, encode, opidOf_append, argOf_append]
    exact ⟨hopid.symm, harg⟩
  case reserved =>
    refine Bool.eq_false_iff.2 fun hm => ?_
    obtain ⟨hopid, hmask⟩ := (matches_iff hr).1 hm
    obtain ⟨i, hi, ha⟩ := exists_of_row r hr _ hmask
    have hdecodes := decode_encode i
    rw [encode_of_fields (hopid.trans hi) ha, hd] at hdecodes
    cases hdecodes

/-- Settles O9: the printed words, each computed. -/
theorem specWordsDecode : Obligations.SpecWordsDecode := by
  unfold Obligations.SpecWordsDecode
  decide

end Sys2Proof
end

section
/-! The byte view of a block (R31, R51): two bytes a sample, low byte first. -/

namespace Sys2Proof.Machine

/-- A sample is its high byte above its low byte. -/
theorem sampleOfBytes_extract (x : Sample) : sampleOfBytes (x.extractLsb' 0 8) (x.extractLsb' 8 8) = x :=
  (BitVec.extractLsb'_append_extractLsb'_eq_extractLsb' (x := x) (start₁ := 0) (len₁ := 8) (len₂ := 8) rfl).trans
    BitVec.extractLsb'_eq_self

/-- The byte view of a sequence of samples. -/
def bytesOf (l : List Sample) : List Byte := (l.map sampleBytes).flatten

theorem bytesOf_cons (x : Sample) (l : List Sample) :
    bytesOf (x :: l) = x.extractLsb' 0 8 :: x.extractLsb' 8 8 :: bytesOf l := rfl

theorem bytesOf_length (l : List Sample) : (bytesOf l).length = 2 * l.length := by
  induction l with
  | nil => rfl
  | cons x xs ih => rw [bytesOf_cons, List.length_cons, List.length_cons, ih, List.length_cons]; omega

theorem samplesOfBytes_bytesOf (l : List Sample) : samplesOfBytes (bytesOf l) = l := by
  induction l with
  | nil => rfl
  | cons x xs ih => rw [bytesOf_cons, samplesOfBytes, sampleOfBytes_extract, ih]

/-- Bytes `2k` and `2k + 1` are those of sample `k`. -/
theorem bytesOf_getElem? (l : List Sample) (k : Nat) :
    (bytesOf l)[2 * k]? = l[k]?.map (fun x => x.extractLsb' 0 8) ∧
    (bytesOf l)[2 * k + 1]? = l[k]?.map (fun x => x.extractLsb' 8 8) := by
  induction l generalizing k with
  | nil => exact ⟨rfl, rfl⟩
  | cons x xs ih =>
    cases k with
    | zero => exact ⟨rfl, rfl⟩
    | succ k => exact ih k

/-- Settles O10: facts about the byte view of any sequence, taken for the 120 samples of a block. -/
theorem byteViewIsLittleEndian : Obligations.ByteViewIsLittleEndian := by
  intro blk
  have hview : blockBytes blk = bytesOf blk.toList := rfl
  rw [hview]
  refine ⟨?_, samplesOfBytes_bytesOf _, fun k => ?_⟩
  · rw [bytesOf_length, Vector.length_toList]
  · obtain ⟨hlow, hhigh⟩ := bytesOf_getElem? blk.toList k.val
    have hk : blk.toList[k.val]? = some blk[k] := by simp
    rw [hlow, hhigh, hk]
    exact ⟨rfl, rfl⟩

end Sys2Proof.Machine
end

section
/-! Each operation alone: that it completes, what it answers, what it writes, and what it leaves as it was. -/

namespace Sys2Proof.Machine

section

variable {s t u : State} {i : Instr} {arg : SymCode}

/-! What each operation does where it is not refused -/

/-- Step 1 of a SEND with room (R122). -/
theorem execSend_room (hh : s.hold = none) (ha : arg[8] = false) (hf : s.fullP = false) :
    exec (.send arg) s = .next (State.answer { (s.fetch (.byte (arg.setWidth 8))).2 with
      hold := some (s.fetch (.byte (arg.setWidth 8))).1 } .quiet) := by
  rcases execSend_cases s arg with ⟨hclosed, _⟩ | ⟨_, hb, _⟩ | ⟨b, _, _, hfull, _⟩ | ⟨b, _, hb, _, e⟩
  · simp [hh] at hclosed
  · simp [byteOf_some ha] at hb
  · simp [hf] at hfull
  · cases (byteOf_some ha).symm.trans hb
    exact e

/-- Step 2 of a SEND with room (R98, R122). -/
theorem execEnq_held {blk : Block} (hh : s.hold = some blk) (hf : s.fullP = false) :
    exec .enq s = .next (State.respond { s.enqueue blk with hold := none, sendIdx := 0 } .ok) := by
  rcases execEnq_cases s with ⟨hn, _⟩ | ⟨hn, _⟩ | ⟨_, hfull, _⟩ | ⟨b, hb, _, e⟩
  · simp [hh] at hn
  · simp [hh] at hn
  · simp [hf] at hfull
  · cases hh.symm.trans hb
    exact e

/-- ENQ outside a SEND with room (R98). -/
theorem execEnq_alone (hh : s.hold = none) (hf : s.fullP = false) :
    exec .enq s = .next ((s.enqueue s.dataPath).answer (.status .ok)) := by
  rcases execEnq_cases s with ⟨_, hfull, _⟩ | ⟨_, _, e⟩ | ⟨hheld, _⟩ | ⟨b, hb, _⟩
  · simp [hf] at hfull
  · exact e
  · simp [hh] at hheld
  · simp [hh] at hb

theorem execPeek_head (h : s.emptyC = false) : exec .peek s = .next (s.answer (.returned (s.slotRead s.rd))) :=
  ((execPeek_cases s).resolve_left fun ⟨hempty, _⟩ => by simp [h] at hempty).2

theorem execAdvr_head (h : s.emptyC = false) : exec .advr s = .next (s.advance.answer (.status .ok)) :=
  ((execAdvr_cases s).resolve_left fun ⟨hempty, _⟩ => by simp [h] at hempty).2

/-- A TICK that drains (R115). -/
theorem execTick_draining (h : s.emptyC = false) : exec .tick s =
    .next (State.answer { s.noteCarrier.advance with seqState := .draining } (.emitted (s.slotRead s.rd) true)) := by
  rcases execTick_cases s with ⟨_, e⟩ | ⟨hempty, _⟩ | ⟨hempty, _⟩
  · exact e
  · simp [h] at hempty
  · simp [h] at hempty

theorem execBuild_code (s : State) (y : Symbol) :
    exec (.build (symbolCode y)) s = .next (s.answer (.record (render s.params y))) := by
  rcases execBuild_cases s (symbolCode y) with ⟨hn, _⟩ | ⟨z, hz, e⟩
  · simp [symbolOf_code] at hn
  · cases (symbolOf_code y).symm.trans hz
    exact e

/-- Writing the value the carrier already has writes nothing (R120). -/
theorem State.setCarrier_self (s : State) : s.setCarrier s.carrier = s := by
  unfold State.setCarrier
  rw [BEq.rfl, Bool.and_true]

/-! Symbol codes (R53) -/

/-- The codes of the 258 symbols are the numbers below `0x102`. -/
theorem exists_symbolCode {sym : SymCode} : (∃ y, symbolCode y = sym) ↔ sym.toNat < 0x102 := by
  constructor
  · rintro ⟨y, rfl⟩
    cases y with
    | byte b => have hb := b.isLt; simp only [symbolCode, BitVec.toNat_setWidth]; omega
    | silence => decide
    | idle => decide
  · intro h
    by_cases hbyte : sym.toNat < 0x100
    · exact ⟨.byte (sym.setWidth 8), BitVec.eq_of_toNat_eq (by simp only [symbolCode, BitVec.toNat_setWidth]; omega)⟩
    · by_cases hsilence : sym.toNat = 0x100
      · exact ⟨.silence, BitVec.eq_of_toNat_eq hsilence.symm⟩
      · exact ⟨.idle, BitVec.eq_of_toNat_eq (show 0x101 = sym.toNat by omega)⟩

/-! The response word (R60) -/

/-- `r` is a response word of the port, and its bits 3 and 4 describe `t`. -/
def describes (r : BitVec 5) (t : State) : Prop := ∃ st : Status, st ≠ .empty ∧ r = responseWord st t.drainedP t.fullP

theorem describes.bits {r : BitVec 5} (h : describes r t) :
    r[3] = t.drainedP ∧ r[4] = t.fullP ∧ (r.extractLsb' 0 3).toNat ≤ 3 := by
  obtain ⟨st, hst, rfl⟩ := h
  obtain ⟨hcode, hdrained, hfull⟩ := responseWord_fields st t.drainedP t.fullP
  refine ⟨hdrained, hfull, ?_⟩
  rw [hcode]
  cases st with
  | empty => exact absurd rfl hst
  | _ => decide

/-- A response is taken after the command's effect. -/
theorem respond_describes {st : Status} {r : BitVec 5} (hst : st ≠ .empty) (h : (s.respond st).out = .response r) :
    describes r (s.respond st) := ⟨st, hst, (Output.response.inj h).symm⟩

/-- Every response word of SEND, SETC, ISDR and the ENQ of a SEND describes the state after. -/
theorem exec_describes {r : BitVec 5} (hi : isPortOp i = true ∨ i = .enq) (he : exec i s = .next t)
    (hr : t.out = .response r) : describes r t := by
  cases i with
  | send arg =>
    rcases execSend_cases s arg with ⟨_, e⟩ | ⟨_, _, e⟩ | ⟨b, _, _, _, e⟩ | ⟨b, _, _, _, e⟩ <;> cases e.symm.trans he
    · exact respond_describes (by decide) hr
    · exact respond_describes (by decide) hr
    · cases hr
  | setc v => obtain ⟨_, rfl⟩ := (execSetc_next s).1 he; exact respond_describes (by decide) hr
  | isdr => obtain ⟨_, rfl⟩ := (execIsdr_next s).1 he; exact respond_describes (by decide) hr
  | enq =>
    rcases execEnq_cases s with ⟨_, _, e⟩ | ⟨_, _, e⟩ | ⟨_, _, e⟩ | ⟨b, _, _, e⟩ <;> cases e.symm.trans he
    · cases hr
    · cases hr
    · exact respond_describes (by decide) hr
    · exact respond_describes (by decide) hr
  | _ => simp [isPortOp] at hi

/-! Who writes what (R42, R145) -/

/-- What operation `i` leaves of the elements that are no view: each is as before unless `i` is among the operations that own it. -/
structure OwnersOnly (i : Instr) (s t : State) : Prop where
  wr : i ≠ .enq → t.wr = s.wr
  slots : i ≠ .enq → t.slots = s.slots
  rd : i ≠ .advr → i ≠ .tick → t.rd = s.rd
  seqState : i ≠ .tick → t.seqState = s.seqState
  lastSense : (∀ arg, i ≠ .send arg) → (∀ sym, i ≠ .fetch sym) → i ≠ .tick → t.lastSense = s.lastSense
  hold : (∀ arg, i ≠ .send arg) → i ≠ .enq → t.hold = s.hold

/-- An operation that writes none of these. -/
theorem OwnersOnly.untouched (hwr : t.wr = s.wr) (hslots : t.slots = s.slots) (hrd : t.rd = s.rd)
    (hseq : t.seqState = s.seqState) (hsense : t.lastSense = s.lastSense) (hhold : t.hold = s.hold) : OwnersOnly i s t :=
  ⟨fun _ => hwr, fun _ => hslots, fun _ _ => hrd, fun _ => hseq, fun _ _ _ => hsense, fun _ _ => hhold⟩

theorem exec_ownersOnly (hi : i ≠ .reset) (he : exec i s = .next t) : OwnersOnly i s t := by
  cases i with
  | send arg =>
    rcases execSend_cases s arg with ⟨_, e⟩ | ⟨_, _, e⟩ | ⟨b, _, _, _, e⟩ | ⟨b, _, _, _, e⟩ <;> cases e.symm.trans he
    · exact .untouched rfl rfl rfl rfl rfl rfl
    · exact .untouched rfl rfl rfl rfl rfl rfl
    · exact ⟨fun _ => rfl, fun _ => rfl, fun _ _ => rfl, fun _ => rfl, fun h => absurd rfl (h arg), fun h => absurd rfl (h arg)⟩
  | setc v => obtain ⟨_, rfl⟩ := (execSetc_next s).1 he; exact .untouched rfl rfl rfl rfl rfl rfl
  | isdr => obtain ⟨_, rfl⟩ := (execIsdr_next s).1 he; exact .untouched rfl rfl rfl rfl rfl rfl
  | build sym =>
    rcases execBuild_cases s sym with ⟨_, e⟩ | ⟨_, _, e⟩ <;> cases e.symm.trans he <;> exact .untouched rfl rfl rfl rfl rfl rfl
  | fetch sym =>
    rcases execFetch_cases s sym with ⟨_, e⟩ | ⟨y, _, e⟩ <;> cases e.symm.trans he
    · exact .untouched rfl rfl rfl rfl rfl rfl
    · exact ⟨fun _ => rfl, fun _ => rfl, fun _ _ => rfl, fun _ => rfl, fun _ h => absurd rfl (h sym), fun _ _ => rfl⟩
  | enq =>
    rcases execEnq_cases s with ⟨_, _, e⟩ | ⟨_, _, e⟩ | ⟨_, _, e⟩ | ⟨b, _, _, e⟩ <;> cases e.symm.trans he <;>
      exact ⟨fun h => absurd rfl h, fun h => absurd rfl h, fun _ _ => rfl, fun _ => rfl, fun _ _ _ => rfl, fun _ h => absurd rfl h⟩
  | peek =>
    rcases execPeek_cases s with ⟨_, e⟩ | ⟨_, e⟩ <;> cases e.symm.trans he <;> exact .untouched rfl rfl rfl rfl rfl rfl
  | advr =>
    rcases execAdvr_cases s with ⟨_, e⟩ | ⟨_, e⟩ <;> cases e.symm.trans he
    · exact .untouched rfl rfl rfl rfl rfl rfl
    · exact ⟨fun _ => rfl, fun _ => rfl, fun h => absurd rfl h, fun _ => rfl, fun _ _ _ => rfl, fun _ _ => rfl⟩
  | tick =>
    rcases execTick_cases s with ⟨_, e⟩ | ⟨_, _, e⟩ | ⟨_, _, e⟩ <;> cases e.symm.trans he <;>
      exact ⟨fun _ => rfl, fun _ => rfl, fun _ h => absurd rfl h, fun h => absurd rfl h, fun _ _ h => absurd rfl h, fun _ _ => rfl⟩
  | reset => exact absurd rfl hi
  | syncw =>
    rcases execSyncw_cases s with ⟨_, e⟩ | ⟨_, e⟩ <;> cases e.symm.trans he <;> exact .untouched rfl rfl rfl rfl rfl rfl
  | syncr =>
    rcases execSyncr_cases s with ⟨_, e⟩ | ⟨_, e⟩ <;> cases e.symm.trans he <;> exact .untouched rfl rfl rfl rfl rfl rfl
  | syncc =>
    rcases execSyncc_cases s with ⟨_, e⟩ | ⟨_, e⟩ <;> cases e.symm.trans he <;> exact .untouched rfl rfl rfl rfl rfl rfl

/-- What operation `i` leaves of the views and the carrier: each view has one SYNC operation, the carrier SETC (R37, R145, R146). -/
structure ViewOwners (i : Instr) (s t : State) : Prop where
  wrC : i ≠ .syncw → t.wrC = s.wrC
  rdP : i ≠ .syncr → t.rdP = s.rdP
  carrierC : i ≠ .syncc → t.carrierC = s.carrierC
  carrier : (∀ v, i ≠ .setc v) → t.carrier = s.carrier

theorem exec_viewOwners (hi : i ≠ .reset) (he : exec i s = .next t) : ViewOwners i s t := by
  have hv := exec_crossPart he
  cases i with
  | reset => exact absurd rfl hi
  | syncw => exact ⟨fun h => absurd rfl h, fun _ => hv.rdP, fun _ => hv.carrierC, fun _ => hv.carrier⟩
  | syncr => exact ⟨fun _ => hv.wrC, fun h => absurd rfl h, fun _ => hv.carrierC, fun _ => hv.carrier⟩
  | syncc => exact ⟨fun _ => hv.wrC, fun _ => hv.rdP, fun h => absurd rfl h, fun _ => hv.carrier⟩
  | setc v => exact ⟨fun _ => hv.wrC, fun _ => hv.rdP, fun _ => hv.carrierC, fun h => absurd rfl (h v)⟩
  | _ => exact ⟨fun _ => hv.wrC, fun _ => hv.rdP, fun _ => hv.carrierC, fun _ => hv.carrier⟩

end

theorem gray_zero : gray 0#5 = 0#5 := by decide

/-- Settles O1: the reset column, read off `State.initial` with the default parameters. -/
theorem resetStateHoldsSpecValues : Obligations.ResetStateHoldsSpecValues :=
  ⟨rfl, rfl, rfl, rfl, rfl, rfl, rfl, rfl, rfl, rfl, rfl, rfl, rfl, rfl, rfl, rfl, rfl, rfl, rfl, rfl, rfl, rfl, rfl, rfl, rfl⟩

/-- Settles O2: RESET is `State.resetAll`, whose values do not depend on the state but for the parameters, the requests and the count. -/
theorem resetOperationWritesEveryElement : Obligations.ResetOperationWritesEveryElement := fun s =>
  ⟨s.resetAll, execReset_eq s, rfl, rfl, rfl, rfl, rfl, rfl, rfl, rfl, rfl, rfl, fun _ => rfl, rfl, rfl, rfl, gray_zero, rfl,
    gray_zero, rfl, rfl, rfl, rfl, rfl, rfl, rfl, s.resetAll.resetAll, execReset_eq _, rfl⟩

/-- Settles O16: every response of the port is a `respond` on the state after (`exec_describes`). -/
theorem responseWordDescribesTheStateAfter : Obligations.ResponseWordDescribesTheStateAfter :=
  fun _ _ _ _ hi he hr _ => (exec_describes hi he hr).bits

/-- Settles O19: on an open port SETC is `State.setCarrier` and its answer. -/
theorem setcWritesTheCarrier : Obligations.SetcWritesTheCarrier := by
  refine fun s v hh => ⟨⟨_, (execSetc_next s).2 ⟨hh, rfl⟩, rfl, rfl, rfl⟩, (execSetc_next s).2 ⟨hh, ?_⟩⟩
  rw [State.setCarrier_self]
  rfl

/-- Settles O20: bit 3 of the answer is `drained_p`. -/
theorem isdrAnswersDrained : Obligations.IsdrAnswersDrained := by
  intro s hh
  obtain ⟨hcode, hdrained, -⟩ := responseWord_fields .ok s.drainedP s.fullP
  exact ⟨_, (execIsdr_next s).2 ⟨hh, rfl⟩, hcode, by rw [hdrained]; exact beq_iff_eq⟩

/-- Settles O21: every code of a symbol is read back as that symbol, whose record is rendered. -/
theorem buildReturnsTheRecord : Obligations.BuildReturnsTheRecord := fun s => ⟨execBuild_code s, fun _ => exists_symbolCode⟩

/-- Settles O22: `execFetch_code`, with the variant and the new phase written out. -/
theorem fetchReturnsTheSelectedVariant : Obligations.FetchReturnsTheSelectedVariant := execFetch_code

/-- Settles O23: `execSend_room`, with the variant and the new phase written out. -/
theorem sendFetchesIntoHold : Obligations.SendFetchesIntoHold := fun _ _ hh ha hf => execSend_room hh ha hf

/-- Settles O24: in either form ENQ is `State.enqueue`, the form of a SEND emptying `hold` too. -/
theorem enqStoresAndAdvances : Obligations.EnqStoresAndAdvances := by
  intro s hf
  have hstored : ∀ blk, (s.enqueue blk).slotRead s.wr = blk := fun blk => by rw [slotRead_enqueue, if_pos rfl]
  have hothers : ∀ blk c, slotIndex c ≠ slotIndex s.wr → (s.enqueue blk).slotRead c = s.slotRead c := fun blk c hc => by
    rw [slotRead_enqueue, if_neg (Ne.symm hc)]
  cases hh : s.hold with
  | some blk =>
    exact ⟨_, execEnq_held hh hf, hstored blk, hothers blk, rfl, rfl, rfl, fun _ => rfl, fun h => by simp at h, rfl⟩
  | none =>
    refine ⟨_, execEnq_alone hh hf, hstored s.dataPath, hothers s.dataPath, rfl, rfl, hh, fun h => absurd rfl h, fun _ => rfl, ?_⟩
    rw [← hh]
    rfl

/-- Settles O25: PEEK is an answer, whichever C sees. -/
theorem peekAnswersTheHeadBlock : Obligations.PeekAnswersTheHeadBlock := fun _ =>
  ⟨fun h => execPeek_head (emptyC_iff.2 h), fun h => execPeek_empty (beq_iff_eq.2 h)⟩

/-- Settles O26: ADVR is `State.advance` where C sees a block. -/
theorem advrRetiresTheHeadBlock : Obligations.AdvrRetiresTheHeadBlock := fun _ h => execAdvr_head (emptyC_iff.2 h)

/-- Settles O28: of `rd` and `lastSense` a draining tick moves only the first and a fallback tick only the second. -/
theorem tickLeavesTheRestAlone : Obligations.TickLeavesTheRestAlone := by
  intro s t he
  rcases execTick_cases s with ⟨_, e⟩ | ⟨_, _, e⟩ | ⟨_, _, e⟩ <;> cases e.symm.trans he
  · exact ⟨.inr rfl, rfl⟩
  · exact ⟨.inl rfl, rfl⟩
  · exact ⟨.inl rfl, rfl⟩

/-- Settles O50: the elements that are no view by `exec_ownersOnly`, the views and the carrier by `exec_viewOwners`. -/
theorem eachElementHasItsWriters : Obligations.EachElementHasItsWriters := by
  intro i s t he hi
  have ho := exec_ownersOnly hi he
  have hv := exec_viewOwners hi he
  exact ⟨fun h => ⟨ho.wr h, slotRead_congr (ho.slots h)⟩, ho.rd, ho.seqState, hv.carrier, ho.lastSense, hv.wrC, hv.rdP,
    hv.carrierC, ho.hold⟩

end Sys2Proof.Machine
end

section
/-! Steps of P: step 2 of a SEND before anything else (R131), the producer port at both levels (R61, R65, R129), SEND_BYTES, DEQ and
TOGC (R64, R124), and the reset pin (R24, R155, R157). -/

namespace Sys2Proof.Machine

section

variable {s t : State} {rest : List Turn} {w : OpWord} {arg : SymCode}

/-! P between the two steps of a SEND -/

/-- The turn of P that waits is put back, so that the step is ENQ of the state itself. -/
theorem finishFirst_back {t : Turn} {blk : Block} (k : Host.Outcome State Fault Refusal) (ht : s.turns = t :: rest)
    (hh : s.hold = some blk) : finishFirst t (s.withTurns rest) k = exec .enq s := by
  rw [finishFirst_of_some (s := s.withTurns rest) hh, State.withTurns_turns, withTurns_back rest ht]
  rfl

theorem producerStep_ready (k : Host.Outcome State Fault Refusal) (hr : s.ready = true) : producerStep s k = k := by
  simp [producerStep, hr]

/-- An operation turn of P, other than ENQ, with a block in `hold`. -/
theorem performOp_held {blk : Block} {i : Instr} (n : Nat) (hh : s.hold = some blk) (hr : s.ready = true)
    (hd : decode w = .ok i) (hm : mayIssue .producer i = true) (hi : i ≠ .enq) :
    performOp .producer w n s = execEnq (s.withTurns (.op .producer w n :: s.turns)) := by
  simp [performOp, hd, hm, notYet_false (.inr (.inr hr)), State.cBusy, State.mustFinish, hh, hi]

/-! The producer port -/

/-- A word that decodes to none of the port's commands is reserved or names an internal operation (R61). -/
theorem badCmd_of_not_portOp (hsend : ∀ arg, decode w ≠ .ok (.send arg)) (hsetc : ∀ v, decode w ≠ .ok (.setc v))
    (hisdr : decode w ≠ .ok .isdr) : (∃ e, decode w = .error e) ∨ ∃ i, decode w = .ok i ∧ isPortOp i = false := by
  cases hd : decode w with
  | error e => exact .inl ⟨e, rfl⟩
  | ok i =>
    refine .inr ⟨i, rfl, ?_⟩
    cases i with
    | send arg => exact absurd hd (hsend arg)
    | setc v => exact absurd hd (hsetc v)
    | isdr => exact absurd hd hisdr
    | _ => rfl

/-- An edge of the P clock with the port between commands. -/
theorem step_pClk {pins : PPins} (ht : s.turns = .pClk pins :: rest) (hr : s.ready = true) (hq : s.rstN = true) :
    step s = .next ((((s.withTurns rest).pWork pins).pShift s.rdGray).answer .quiet) := by
  rw [step_of_turns ht]
  exact pEdge_running (s := s.withTurns rest) pins s.rdGray hr hq

/-- What the accepting edge leaves of a state, given what accepting the word leaves. -/
theorem step_accepts (ht : s.turns = .pClk ⟨true, w⟩ :: rest) (hr : s.ready = true) (hq : s.rstN = true)
    (hh : s.hold = none) (ha : (s.withTurns rest).acceptB w = t) :
    step s = .next ((t.pShift s.rdGray).answer .quiet) := by
  subst ha
  rw [step_pClk ht hr hq, pWork_of_none (s := s.withTurns rest) _ hh, if_pos rfl]

theorem acceptB_send (s : State) (hd : decode w = .ok (.send arg)) :
    s.acceptB w = sendAnswerB (s.sendStep1 s.fullGray arg) := by
  simp only [State.acceptB, hd]

/-- An accepted SEND does step 1 and does not answer yet (R129, log 19). -/
theorem acceptB_send_room (hd : decode w = .ok (.send arg)) (ha : arg[8] = false) (hf : s.fullGray = false) :
    s.acceptB w = { (s.fetch (.byte (arg.setWidth 8))).2 with
      hold := some (s.fetch (.byte (arg.setWidth 8))).1, pRspValid := false, sendIdx := 0 } := by
  rw [acceptB_send s hd]
  simp only [State.sendStep1, byteOf_some ha, hf, sendAnswerB, Bool.false_eq_true, if_false]

/-- A refused SEND answers BADSYM before FULL (R138). -/
theorem acceptB_send_refused (hd : decode w = .ok (.send arg)) (h : arg[8] = true ∨ s.fullGray = true) :
    s.acceptB w = s.respondB (if arg[8] then .badSym else .full) := by
  rw [acceptB_send s hd]
  cases ha : arg[8] with
  | true => simp only [State.sendStep1, byteOf_none ha, sendAnswerB, if_true]
  | false =>
    have hf : s.fullGray = true := h.resolve_left (by simp [ha])
    simp only [State.sendStep1, byteOf_some ha, hf, sendAnswerB, if_true, Bool.false_eq_true, if_false]

theorem acceptB_setc {v : Bool} (hd : decode w = .ok (.setc v)) : s.acceptB w = (s.setCarrier v).respondB .ok := by
  simp only [State.acceptB, hd]

theorem acceptB_isdr (hd : decode w = .ok .isdr) : s.acceptB w = s.respondB .ok := by
  simp only [State.acceptB, hd]

theorem acceptB_badCmd (h : (∃ e, decode w = .error e) ∨ ∃ i, decode w = .ok i ∧ isPortOp i = false) :
    s.acceptB w = s.respondB .badCmd := by
  rcases h with ⟨e, hd⟩ | ⟨i, hd, hp⟩
  · simp only [State.acceptB, hd]
  · cases i with
    | send | setc | isdr => cases hp
    | _ => simp only [State.acceptB, hd]

/-- The port answers with a status, and nothing else is changed at that edge but what `t` names. -/
theorem step_answersB {u : State} {st : Status} (ht : s.turns = .pClk ⟨true, w⟩ :: rest) (hr : s.ready = true)
    (hq : s.rstN = true) (hh : s.hold = none) (ha : (s.withTurns rest).acceptB w = u.respondB st) :
    ∃ r : BitVec 5, r.extractLsb' 0 3 = st.code ∧
      step s = .next { (u.pShift s.rdGray).answer .quiet with pRspValid := true, pRsp := r } :=
  ⟨_, (responseWord_fields st _ _).1, step_accepts ht hr hq hh ha⟩

/-! SEND_BYTES -/

theorem nextBatch_of_ne {bytes : List Byte} (h : bytes ≠ []) : nextBatch bytes = some ⟨.send, bytes⟩ := by
  cases bytes with
  | nil => exact absurd rfl h
  | cons b bs => rfl

theorem nextBatch_eq (bytes : List Byte) : nextBatch bytes = if bytes = [] then none else some ⟨.send, bytes⟩ := by
  cases bytes <;> rfl

/-- One turn of the wait is one ISDR, and ends the wait where it answers drained (R124). -/
theorem spinStep_eq (bytes : List Byte) (hh : s.hold = none) :
    spinStep bytes s = .next (if s.drainedP then { s.respond .ok with batch := nextBatch bytes } else s.respond .ok) := by
  rw [spinStep, execIsdr, portOpen_of_none hh, andThen_next]

theorem step_sendBytesStep (ht : s.turns = .sendBytesStep :: rest) (hr : s.ready = true) :
    step s = batchStep (s.withTurns rest) :=
  (step_of_turns ht).trans (producerStep_ready (s := s.withTurns rest) _ hr)

/-- The step of a loop that waits, P being between commands. -/
theorem batchStep_wait {bytes : List Byte} (hh : s.hold = none) (hb : s.batch = some ⟨.waitDrain, bytes⟩) :
    batchStep s = spinStep bytes s := by
  simp [batchStep, hh, hb]

/-- The step of a loop that is at a byte's SEND, P being between commands. -/
theorem batchStep_send {b : Byte} {more : List Byte} (hh : s.hold = none) (hb : s.batch = some ⟨.send, b :: more⟩) :
    batchStep s = sendNext b more s := by
  simp [batchStep, hh, hb]

/-- A byte's code is a well-formed operand of SEND, and names that byte. -/
theorem byte_operand (b : Byte) : (b.setWidth 9)[8] = false ∧ ((b.setWidth 9).setWidth 8) = b := by revert b; decide

/-- The SEND of the next byte, answered FULL: back to the wait with the same bytes (R124). -/
theorem sendNext_full (b : Byte) (more : List Byte) (hh : s.hold = none) (hf : s.fullP = true) :
    sendNext b more s = .next { s.raisePort .full with batch := some ⟨.waitDrain, b :: more⟩ } := by
  have hsend : execSend (b.setWidth 9) s = .next (s.raisePort .full) := execSend_full hh (byte_operand b).1 hf
  have hopen : (s.raisePort .full).hold.isSome = false := by simp [hh]
  rw [sendNext, hsend, andThen_next, hopen, if_neg Bool.false_ne_true]

/-- The SEND of the next byte, accepted: the byte is done with (R124). -/
theorem sendNext_room (b : Byte) (more : List Byte) (hh : s.hold = none) (hf : s.fullP = false) :
    sendNext b more s = .next { (s.fetch (.byte b)).2 with
      hold := some (s.fetch (.byte b)).1, batch := nextBatch more, out := .quiet } := by
  obtain ⟨hbyte, hval⟩ := byte_operand b
  have hsend : execSend (b.setWidth 9) s = _ := execSend_room hh hbyte hf
  rw [sendNext, hsend, hval]
  rfl

/-! DEQ (R64) -/

theorem execDeq_head (h : s.emptyC = false) : execDeq s = .next (s.advance.answer (.returned (s.slotRead s.rd))) := by
  have hpeek : s.peek = some (s.slotRead s.rd) := by simp [State.peek, h]
  have hadvr : execAdvr s = _ := execAdvr_head h
  rw [execDeq, hpeek]
  dsimp only
  rw [hadvr]
  rfl

theorem execDeq_empty (h : s.emptyC = true) : execDeq s = .next (s.answer (.status .empty)) := by
  have hpeek : s.peek = none := by simp [State.peek, h]
  rw [execDeq, hpeek]
  exact execPeek_empty h

theorem step_deq (ht : s.turns = .deq :: rest) (hr : s.ready = true) (hb : s.busy = false) :
    step s = execDeq (s.withTurns rest) := by
  rw [step_of_turns ht]
  simp [runTurn, hr, hb]

/-! The reset pin -/

/-- Reset holds every register: an edge without a command shows nothing and changes nothing (R155). -/
theorem pEdge_held (w : OpWord) (x : Cursor) (hq : s.rstN = false) : pEdge ⟨false, w⟩ x s = .next (s.answer .quiet) := by
  simp [pEdge, hq]

theorem cEdge_held (pause : Bool) (x : Cursor) (v : Bool) (hq : s.rstN = false) :
    cEdge ⟨false, pause⟩ x v s = .next (s.answer .quiet) := by
  simp [cEdge, hq]

/-- `ready` rises only where reset is released (R24). -/
theorem initDone_eq (s : State) : initDone s = .next ({ s with ready := s.ready || s.rstN }.answer .quiet) := by
  unfold initDone
  split
  · rename_i hq
    have hrises : (s.ready || s.rstN) = true := by rw [hq, Bool.or_true]
    rw [hrises]
  · rename_i hq
    have hstays : (s.ready || s.rstN) = s.ready := by rw [Bool.eq_false_iff.2 hq, Bool.or_false]
    rw [hstays]

end

/-- Settles O17: `finishFirst` and `performOp` put the request back and take step 2; SEND_BYTES and ENQ are that step themselves. -/
theorem heldBlockIsEnqueuedFirst : Obligations.HeldBlockIsEnqueuedFirst := by
  intro s blk rest hh hr
  refine ⟨fun w ht => ?port, fun w n i ht hd hm hi => ?op, fun w n ht hd => ?enq, fun ht => ?togc, fun bytes ht => ?sendBytes,
    fun ht => ?sendBytesStep⟩
  case port =>
    have hready : (s.withTurns rest).ready = true := hr
    rw [step_of_turns ht]
    simp only [runTurn, offerWord, hready, bne_self_eq_false, Bool.false_eq_true, if_false, Bool.not_true]
    exact finishFirst_back _ ht hh
  case op =>
    rw [step_of_turns ht]
    refine (performOp_held (s := s.withTurns rest) n hh hr hd hm hi).trans ?_
    rw [State.withTurns_turns, withTurns_back rest ht]
    rfl
  case enq =>
    rw [step_of_turns ht]
    exact performOp_exec n hd rfl (notYet_false (.inr (.inr hr))) (cBusy_false.2 (by simp))
      (mustFinish_false fun _ => .inr rfl) (mustCross_of_ne (by simp))
  case togc =>
    rw [step_of_turns ht]
    exact (producerStep_ready (s := s.withTurns rest) _ hr).trans (finishFirst_back _ ht hh)
  case sendBytes =>
    rw [step_of_turns ht]
    exact (producerStep_ready (s := s.withTurns rest) _ hr).trans (finishFirst_back _ ht hh)
  case sendBytesStep =>
    have hheld : (s.withTurns rest).hold.isSome = true := by simp [hh]
    rw [step_sendBytesStep ht hr, batchStep, hheld, if_pos rfl]
    rfl

/-- Settles O13: Level A by `portCommand`, Level B by `State.acceptB` with the synchroniser's shift after it. -/
theorem portRunsItsCommandsOrAnswersBadCmd : Obligations.PortRunsItsCommandsOrAnswersBadCmd := by
  refine ⟨fun s w rest ht hr hh => ?levelA, fun s w rest hr hq hh => ⟨fun ht => ?noWord, fun ht => ?levelB⟩⟩
  case levelA =>
    have hstep := step_port ht hr hh
    exact ⟨fun arg hd => hstep.trans (portCommand_exec hd rfl), fun v hd => hstep.trans (portCommand_exec hd rfl),
      fun hd => hstep.trans (portCommand_exec hd rfl),
      fun h1 h2 h3 => hstep.trans (portCommand_badCmd (badCmd_of_not_portOp h1 h2 h3))⟩
  case noWord =>
    rw [step_pClk ht hr hq, pWork_of_none (s := s.withTurns rest) _ hh, if_neg Bool.false_ne_true]
    rfl
  case levelB =>
    refine ⟨fun arg hd ha hf => ?_, fun arg hd h => ?_, fun v hd => ?_, fun hd => ?_, fun h1 h2 h3 => ?_⟩
    · exact step_accepts ht hr hq hh (acceptB_send_room hd ha hf)
    · have hanswer := step_answersB ht hr hq hh (acceptB_send_refused hd h)
      cases ha : arg[8] <;> rw [ha] at hanswer <;> exact hanswer
    · exact ⟨_, step_answersB ht hr hq hh (acceptB_setc hd)⟩
    · exact step_answersB ht hr hq hh (acceptB_isdr hd)
    · exact step_answersB ht hr hq hh (acceptB_badCmd (badCmd_of_not_portOp h1 h2 h3))

/-- Settles O55: the start, the wait and the SEND of the loop by `batchStep`, TOGC as the SETC it is, and DEQ by `execDeq`. -/
theorem batchSendsItsBytesInOrder : Obligations.BatchSendsItsBytesInOrder := by
  refine ⟨fun s rest hr hh => ⟨fun bytes ht => ?start, fun bytes ht hbatch => ?wait, fun b more ht hbatch => ?send,
    fun ht => ?togc⟩, fun s rest ht hr hb => ?deq⟩
  case start =>
    rw [step_of_turns ht]
    exact (producerStep_ready (s := s.withTurns rest) _ hr).trans (finishFirst_of_none (s := s.withTurns rest) hh)
  case wait =>
    have hstep := (step_sendBytesStep ht hr).trans (batchStep_wait (s := s.withTurns rest) hh hbatch)
    have hspin := hstep.trans (spinStep_eq (s := s.withTurns rest) bytes hh)
    have hdrained : s.wr = s.rdP → (s.withTurns rest).drainedP = true := beq_iff_eq.2
    refine ⟨fun hne => ?_, fun heq hnil => ?_, fun heq hcons => ?_⟩
    · have hnot : (s.withTurns rest).drainedP = false := beq_eq_false_iff_ne.2 hne
      rw [hspin, hnot]
      rfl
    · rw [hspin, hdrained heq, hnil]
      rfl
    · rw [hspin, hdrained heq, nextBatch_of_ne hcons]
      rfl
  case send =>
    have hstep := (step_sendBytesStep ht hr).trans (batchStep_send (s := s.withTurns rest) hh hbatch)
    refine ⟨fun hf => ?_, fun hf => ?_⟩
    · rw [hstep, sendNext_full (s := s.withTurns rest) b more hh hf, ← hf]
      rfl
    · rw [hstep, sendNext_room (s := s.withTurns rest) b more hh hf, nextBatch_eq]
      rfl
  case togc =>
    rw [step_of_turns ht]
    exact (producerStep_ready (s := s.withTurns rest) _ hr).trans (finishFirst_of_none (s := s.withTurns rest) hh)
  case deq =>
    rw [step_deq ht hr hb]
    exact ⟨fun h => execDeq_head (s := s.withTurns rest) (emptyC_iff.2 h),
      fun h => execDeq_empty (s := s.withTurns rest) (beq_iff_eq.2 h)⟩

/-- Settles O59: each event is a turn, and what it leaves is read off `resetPin`, `initDone` and an edge under reset. -/
theorem resetPinHoldsTheMachine : Obligations.ResetPinHoldsTheMachine := by
  intro s rest
  refine ⟨fun ht => ?low, fun w ht hq => ?pClk, fun pause ht hq => ?cClk, fun ht => ?release, fun ht => ?initDone⟩
  case low =>
    exact ⟨_, step_of_turns ht, rfl, rfl, rfl, rfl, rfl, rfl, rfl, rfl, rfl, rfl, rfl, rfl, rfl, fun _ => rfl, rfl, rfl, rfl,
      gray_zero, rfl, gray_zero, rfl, rfl, rfl, rfl, rfl⟩
  case pClk => exact (step_of_turns ht).trans (pEdge_held (s := s.withTurns rest) w _ hq)
  case cClk => exact (step_of_turns ht).trans (cEdge_held (s := s.withTurns rest) pause _ _ hq)
  case release => exact step_of_turns ht
  case initDone => exact (step_of_turns ht).trans (initDone_eq (s.withTurns rest))

end Sys2Proof.Machine
end

section
/-! The rows of the rights table (R145, R146): what an operation turn of each agent leaves. -/

namespace Sys2Proof.Machine

section

variable {s t : State} {who : Agent} {i j : Instr}

/-- An agent performs no operation outside its row. -/
theorem ne_of_mayIssue (hm : mayIssue who i = true) (hj : mayIssue who j = false) : i ≠ j := by
  rintro rfl
  cases hm.symm.trans hj

/-- No operation but RESET writes a slot other than the one at `wr`. -/
theorem exec_slotRead_other {c : Cursor} (hi : i ≠ .reset) (he : exec i s = .next t) (hc : slotIndex c ≠ slotIndex s.wr) :
    t.slotRead c = s.slotRead c := by
  by_cases hq : i = .enq
  · subst hq
    have hother : ∀ blk, (s.enqueue blk).slotRead c = s.slotRead c := fun blk => by rw [slotRead_enqueue, if_neg (Ne.symm hc)]
    rcases execEnq_cases s with ⟨_, _, e⟩ | ⟨_, _, e⟩ | ⟨_, _, e⟩ | ⟨b, _, _, e⟩ <;> cases e.symm.trans he
    · rfl
    · exact hother _
    · rfl
    · exact hother _
  · exact slotRead_congr ((exec_ownersOnly hi he).slots hq) c

/-- P's row. -/
theorem exec_producer_row (hm : mayIssue .producer i = true) (he : exec i s = .next t) :
    t.rd = s.rd ∧ t.seqState = s.seqState ∧ t.wrC = s.wrC ∧ t.rdP = s.rdP ∧ t.carrierC = s.carrierC ∧
      ∀ c, slotIndex c ≠ slotIndex s.wr → t.slotRead c = s.slotRead c := by
  have hi : i ≠ .reset := ne_of_mayIssue hm rfl
  have ho := exec_ownersOnly hi he
  have hv := exec_viewOwners hi he
  exact ⟨ho.rd (ne_of_mayIssue hm rfl) (ne_of_mayIssue hm rfl), ho.seqState (ne_of_mayIssue hm rfl),
    hv.wrC (ne_of_mayIssue hm rfl), hv.rdP (ne_of_mayIssue hm rfl), hv.carrierC (ne_of_mayIssue hm rfl),
    fun c => exec_slotRead_other hi he⟩

/-- C's row. -/
theorem exec_consumer_row (hm : mayIssue .consumer i = true) (he : exec i s = .next t) :
    t.wr = s.wr ∧ t.carrier = s.carrier ∧ t.hold = s.hold ∧ t.wrC = s.wrC ∧ t.rdP = s.rdP ∧ t.carrierC = s.carrierC ∧
      ∀ c, t.slotRead c = s.slotRead c := by
  have hi : i ≠ .reset := ne_of_mayIssue hm rfl
  have henq : i ≠ .enq := ne_of_mayIssue hm rfl
  have ho := exec_ownersOnly hi he
  have hv := exec_viewOwners hi he
  exact ⟨ho.wr henq, hv.carrier fun _ => ne_of_mayIssue hm rfl, ho.hold (fun _ => ne_of_mayIssue hm rfl) henq,
    hv.wrC (ne_of_mayIssue hm rfl), hv.rdP (ne_of_mayIssue hm rfl), hv.carrierC (ne_of_mayIssue hm rfl),
    slotRead_congr (ho.slots henq)⟩

/-- X's row. -/
theorem exec_crossing_row (hm : mayIssue .crossing i = true) (he : exec i s = .next t) :
    t.wr = s.wr ∧ t.rd = s.rd ∧ t.carrier = s.carrier ∧ t.hold = s.hold ∧ t.lastSense = s.lastSense ∧
      t.seqState = s.seqState ∧ ∀ c, t.slotRead c = s.slotRead c := by
  have hi : i ≠ .reset := ne_of_mayIssue hm rfl
  have henq : i ≠ .enq := ne_of_mayIssue hm rfl
  have htick : i ≠ .tick := ne_of_mayIssue hm rfl
  have hsend : ∀ arg, i ≠ .send arg := fun _ => ne_of_mayIssue hm rfl
  have ho := exec_ownersOnly hi he
  have hv := exec_viewOwners hi he
  exact ⟨ho.wr henq, ho.rd (ne_of_mayIssue hm rfl) htick, hv.carrier fun _ => ne_of_mayIssue hm rfl, ho.hold hsend henq,
    ho.lastSense hsend (fun _ => ne_of_mayIssue hm rfl) htick, ho.seqState htick, slotRead_congr (ho.slots henq)⟩

end

/-- Settles O51: an operation turn performs an operation of its agent's row, or is step 2 of P's own SEND, or is the SYNCC of X that
is due before C's TICK. -/
theorem agentsWriteOnlyTheirRow : Obligations.AgentsWriteOnlyTheirRow := by
  intro s t who w n rest ht hstep
  have hperform : performOp who w n (s.withTurns rest) = .next t := (step_of_turns ht).symm.trans hstep
  have hback : (s.withTurns rest).withTurns (.op who w n :: (s.withTurns rest).turns) = s := withTurns_back rest ht
  rcases performOp_cases who w n (s.withTurns rest) with
    ⟨r, e⟩ | ⟨i, -, rfl, -, -, e⟩ | ⟨hd, rfl, hstale, hlag, e⟩ | ⟨i, -, hm, -, -, -, e⟩
  · cases e.symm.trans hperform
  · rw [hback] at e
    have he : exec .enq s = .next t := e.symm.trans hperform
    exact ⟨fun _ => exec_producer_row (i := .enq) rfl he, by simp, by simp, by simp⟩
  · rw [hback] at e
    have hsync : exec .syncc s = .next (s.syncCarrier.answer .quiet) := execSyncc_of_lag hlag
    cases e.symm.trans hperform
    refine ⟨by simp, fun _ hrest => ?_, fun _ _ => ⟨rfl, hd, hstale, hlag, hstep.trans hsync.symm⟩, by simp⟩
    exact absurd (ht.symm.trans hrest) (List.cons_ne_self _ _)
  · have he := e.symm.trans hperform
    have hturns : t.turns = rest := exec_turns he
    refine ⟨?_, ?_, fun _ hne => absurd hturns hne, ?_⟩
    · rintro rfl; have hrow := exec_producer_row hm he; exact hrow
    · rintro rfl _; have hrow := exec_consumer_row hm he; exact hrow
    · rintro rfl; have hrow := exec_crossing_row hm he; exact hrow

end Sys2Proof.Machine
end

section
/-! The waveforms (R74 to R76, R82 to R87): the fixed patterns, the slots of a byte's waveform, and the records of the markers. -/

namespace Sys2Proof.Machine

/-! Silence -/

theorem silenceWf_getElem (k : Fin 120) : silenceWf[k] = 0#16 :=
  List.eq_of_mem_replicate (Vector.mem_toList_iff.2 (Vector.getElem_mem k.isLt) : silenceWf[k] ∈ silenceWf.toList)

theorem sampleSum_silenceWf : sampleSum silenceWf.toList = 0 := by
  show ((List.replicate 120 0#16).map BitVec.toInt).sum = 0
  rw [List.map_replicate, BitVec.toInt_zero, List.sum_replicate, smul_zero]

/-- The record of silence (R84). -/
theorem render_silence (p : Params) : render p .silence = { a := silenceWf, b := silenceWf, cont := true } := by
  show ({ a := silenceWf, b := negBlock silenceWf, cont := contFlag silenceWf } : CachedSample) = _
  rw [negBlock_silenceWf, contFlag_silenceWf]

/-! Sums and repetition -/

section

variable {p : Params}

theorem rep_succ (n : Nat) (l : List Sample) : rep (n + 1) l = l ++ rep n l := by
  simp [rep, List.replicate_succ]

theorem negList_rep (n : Nat) (l : List Sample) : negList (rep n l) = rep n (negList l) := by
  induction n with
  | zero => rfl
  | succ n ih => rw [rep_succ, rep_succ, negList_append, ih]

theorem sampleSum_rep_zero {l : List Sample} (h : sampleSum l = 0) (n : Nat) : sampleSum (rep n l) = 0 := by
  induction n with
  | zero => rfl
  | succ n ih => rw [rep_succ, sampleSum_append, h, ih]; rfl

/-- A tone's sum changes sign with the sense: T2 keeps each sample's negation exact. -/
theorem ToneOk.sum_signedTone (h : ToneOk p) {t : Tone} (ht : t = p.tone0 ∨ t = p.tone1) (sense : Bool) :
    sampleSum (signedTone t sense) = if sense then -sampleSum t.toList else sampleSum t.toList := by
  cases sense with
  | false => rfl
  | true =>
    refine sampleSum_neg fun x hx => (h.bounds_of_mem ?_).1
    rcases ht with rfl | rfl
    · exact .inl hx
    · exact .inr hx

/-! Idle-carrier -/

theorem idleWf_toList (p : Params) :
    (idleWf p).toList = rep 6 (p.tone0.toList ++ negList p.tone0.toList) := rfl

/-- A zero-tone and its negation cancel. -/
theorem sampleSum_idleWf (h : ToneOk p) : sampleSum (idleWf p).toList = 0 := by
  have hneg := h.sum_signedTone (.inl rfl) true
  rw [idleWf_toList]
  refine sampleSum_rep_zero ?_ 6
  rw [sampleSum_append]
  change sampleSum (negList p.tone0.toList) = -sampleSum p.tone0.toList at hneg
  omega

/-! The slots of a byte's waveform (R82, R83) -/

/-- Slot `j` of the byte's waveform is zero-tone: not the start slot, a data slot as its bit says, every stop slot (R82). -/
def isZeroSlot (b : Byte) (j : Nat) : Bool := if j = 0 then false else if j ≤ 8 then b.getLsbD (j - 1) else true

/-- The zero-tone slots before slot `j`. -/
def zerosBefore (b : Byte) (j : Nat) : Nat := ((List.range j).filter (isZeroSlot b)).length

theorem slotBits_eq_map (b : Byte) : slotBits b = (List.range 11).map fun i => isZeroSlot b (i + 1) := rfl

theorem slotBits_length (b : Byte) : (slotBits b).length = 11 := rfl

theorem slotBits_getElem (b : Byte) {i : Nat} (hi : i < (slotBits b).length) : (slotBits b)[i] = isZeroSlot b (i + 1) := by
  simp only [slotBits_eq_map, List.getElem_map, List.getElem_range]

/-- The start slot is no zero-tone, so the toggles before slot `i + 1` are those of the `i` slots after it. -/
theorem slotBits_count_take (b : Byte) {i : Nat} (hi : i ≤ 11) : ((slotBits b).take i).count true = zerosBefore b (i + 1) := by
  have hstart : isZeroSlot b 0 = false := rfl
  rw [slotBits_eq_map, ← List.map_take, List.take_range, Nat.min_eq_left hi, zerosBefore, List.range_succ_eq_map,
    List.filter_cons_of_neg (by simp [hstart]), List.count_eq_countP, List.countP_map, List.filter_map, List.length_map,
    List.countP_eq_length_filter]
  congr 2
  funext j
  simp

/-- Sample `k` of slot `j` of the waveform (R83). -/
theorem wave_getElem? (p : Params) (b : Byte) {j k : Nat} (hj : j < 12) (hk : k < 10) :
    (wave p b).toList[10 * j + k]? =
      some (let v := if isZeroSlot b j then p.tone0[k] else p.tone1[k]
            if zerosBefore b j % 2 = 0 then v else -v) := by
  rw [wave_toList]
  cases j with
  | zero =>
    rw [List.getElem?_append_left (by rw [signedTone_length]; omega), Nat.mul_zero, Nat.zero_add, signedTone_getElem? _ _ _ hk]
    rfl
  | succ i =>
    have hi : i < (slotBits b).length := by rw [slotBits_length]; omega
    have hindex : 10 * (i + 1) + k - 10 = 10 * i + k := by omega
    rw [List.getElem?_append_right (by rw [signedTone_length]; omega), signedTone_length, hindex,
      emitSlots_getElem? p _ _ i k hi hk, slotBits_getElem, slotBits_count_take b (by omega)]
    rcases Nat.mod_two_eq_zero_or_one (zerosBefore b (i + 1)) with h | h <;> simp [h]

theorem wave_getElem (p : Params) (b : Byte) {j k : Nat} (hj : j < 12) (hk : k < 10) :
    (wave p b)[10 * j + k]'(by omega) =
      let v := if isZeroSlot b j then p.tone0[k] else p.tone1[k]
      if zerosBefore b j % 2 = 0 then v else -v := by
  have h := wave_getElem? p b hj hk
  rw [List.getElem?_eq_getElem (by rw [Vector.length_toList]; omega)] at h
  exact Option.some.inj h

/-! Sums (R92 (e)) -/

/-- Two zero-tones one after the other are of opposite sense and cancel, so the sum is that of one or of none, with the sense the
sequence began with. -/
theorem sampleSum_emitSlots (h : ToneOk p) (bits : List Bool) (sense : Bool) :
    sampleSum (emitSlots p bits sense) =
      (if sense then -1 else 1) * if bits.count true % 2 = 1 then sampleSum p.tone0.toList else 0 := by
  induction bits generalizing sense with
  | nil => cases sense <;> rfl
  | cons b rest ih =>
    cases b with
    | false =>
      have hone : sampleSum (signedTone p.tone1 sense) = 0 := by
        rw [h.sum_signedTone (.inr rfl), h.t7]; cases sense <;> rfl
      rw [emitSlots, sampleSum_append, hone, ih, List.count_cons_of_ne (by decide), Int.zero_add]
    | true =>
      rw [emitSlots, sampleSum_append, h.sum_signedTone (.inl rfl), ih, List.count_cons_self]
      rcases Nat.mod_two_eq_zero_or_one (rest.count true) with hc | hc <;> cases sense <;> simp [hc, Nat.add_mod]

theorem slotBits_count_all (b : Byte) : (slotBits b).count true = popcount b + 3 := by
  have hsplit : slotBits b = dataBits b ++ [true, true, true] := rfl
  rw [hsplit, List.count_append]
  rfl

theorem sampleSum_wave (h : ToneOk p) (b : Byte) :
    sampleSum (wave p b).toList = if popcount b % 2 = 0 then sampleSum p.tone0.toList else 0 := by
  have hstart : sampleSum (signedTone p.tone1 false) = 0 := h.t7
  rw [wave_toList, sampleSum_append, hstart, sampleSum_emitSlots h, slotBits_count_all]
  rcases Nat.mod_two_eq_zero_or_one (popcount b) with hc | hc <;> simp [hc, Nat.add_mod]

/-! The continuity flag (R87) -/

theorem contFlag_iff (a : Block) : contFlag a = true ↔ 0 ≤ a[119].toInt := decide_eq_true_iff

/-- A byte's last slot is zero-tone, whose last sample is positive (T3); its sense is the parity. -/
theorem contFlag_wave (h : ToneOk p) (b : Byte) : contFlag (wave p b) = true ↔ popcount b % 2 = 0 := by
  have hpos : 0 < p.tone0[9].toInt := h.t3.2
  have hneg : (-p.tone0[9]).toInt = -p.tone0[9].toInt := toInt_neg_of_bounds (by omega)
  rw [contFlag_iff, wave_last]
  split
  · rw [hneg]; omega
  · omega

/-! Slot starts (R92 (b)) -/

/-- Every slot starts with the first sample of a tone, which is 0 (T1). -/
theorem variantA_slotStart (h : ToneOk p) (y : Symbol) (j : Fin 12) : (variantA p y)[10 * j.val]'(by omega) = 0#16 := by
  obtain ⟨hzero, hone⟩ := h.t1
  cases y with
  | byte b =>
    refine (wave_getElem p b j.isLt (k := 0) (by decide)).trans ?_
    rw [hzero, hone, ite_self]
    exact ite_self _
  | silence => exact silenceWf_getElem ⟨10 * j.val, by omega⟩
  | idle =>
    have hk : 10 * j.val % 10 = 0 := by omega
    refine (idleWf_getElem p ⟨10 * j.val, by omega⟩).trans ?_
    simp only [hk, hzero]
    exact ite_self _

/-! The classifier (R92 (d)) -/

/-- Slot `j` of a block of slots, from the samples that lie in it. -/
theorem slotOf_eq {blk : Block} {j : Nat} {l : List Sample} (hl : l.length = 10)
    (h : ∀ k, k < 10 → blk.toList[10 * j + k]? = l[k]?) : slotOf blk j = l := by
  refine List.ext_getElem? fun k => ?_
  rw [slotOf, List.getElem?_take]
  split
  · rename_i hk
    rw [List.getElem?_drop, h k hk]
  · rw [List.getElem?_eq_none (by omega)]

theorem slotOf_negBlock (blk : Block) (j : Nat) : slotOf (negBlock blk) j = negList (slotOf blk j) := by
  simp only [slotOf, negBlock_toList, negList, List.map_take, List.map_drop]

/-- Each slot of a byte's waveform is one of the two tones in one of the two senses. -/
theorem slotOf_wave (p : Params) (b : Byte) {j : Nat} (hj : j < 12) :
    slotOf (wave p b) j = signedTone (if isZeroSlot b j then p.tone0 else p.tone1) (zerosBefore b j % 2 == 1) := by
  refine slotOf_eq (signedTone_length _ _) fun k hk => ?_
  rw [wave_getElem? p b hj hk, signedTone_getElem? _ _ _ hk]
  rcases Nat.mod_two_eq_zero_or_one (zerosBefore b j) with h | h <;> cases isZeroSlot b j <;> simp [h]

theorem negList_inj {l m : List Sample} : negList l = negList m ↔ l = m :=
  ⟨fun h => by rw [← negList_negList l, h, negList_negList], congrArg negList⟩

/-- The classifier takes no notice of the polarity. -/
theorem isZeroTone_negList (p : Params) (l : List Sample) : isZeroTone p (negList l) = isZeroTone p l := by
  have hflip : negList l = p.tone0.toList ↔ l = negList p.tone0.toList := by
    rw [← negList_inj, negList_negList]
  rw [Bool.eq_iff_iff]
  simp only [isZeroTone, Bool.or_eq_true, beq_iff_eq, hflip, negList_inj]
  exact or_comm

/-- T6: the four tone sequences are told apart. -/
theorem ToneOk.isZeroTone_signedTone (h : ToneOk p) (zero sense : Bool) :
    isZeroTone p (signedTone (if zero then p.tone0 else p.tone1) sense) = zero := by
  have hdistinct := h.t6
  simp only [List.nodup_cons, List.mem_cons, not_or] at hdistinct
  obtain ⟨⟨-, h01, -⟩, ⟨hn01, -⟩, -⟩ := hdistinct
  have hplain : ∀ t : Tone, isZeroTone p (signedTone t sense) = isZeroTone p t.toList := fun t => by
    cases sense
    · rfl
    · exact isZeroTone_negList p _
  rw [hplain]
  cases zero with
  | true => simp [isZeroTone]
  | false =>
    show (p.tone1.toList == p.tone0.toList || p.tone1.toList == negList p.tone0.toList) = false
    rw [beq_eq_false_iff_ne.2 (Ne.symm h01), beq_eq_false_iff_ne.2 (Ne.symm hn01)]
    rfl

theorem ToneOk.one_ne_neg (h : ToneOk p) : p.tone1.toList ≠ negList p.tone1.toList := by
  have hdistinct := h.t6
  simp only [List.nodup_cons, List.mem_cons, not_or] at hdistinct
  obtain ⟨-, -, ⟨hne, -⟩, -⟩ := hdistinct
  exact hne

/-- A byte is made of its eight bits. -/
theorem ofBoolListLE_bits (b : Byte) :
    (BitVec.ofBoolListLE ((List.range 8).map fun i => b.getLsbD i)).setWidth 8 = b := by
  revert b; decide +kernel

/-- The data slots classify to the bits, whichever the polarity. -/
theorem ToneOk.isZeroTone_dataSlot (h : ToneOk p) (b : Byte) {i : Nat} (hi : i < 8) :
    isZeroTone p (slotOf (wave p b) (i + 1)) = b.getLsbD i := by
  have hdata : isZeroSlot b (i + 1) = b.getLsbD i := by simp [isZeroSlot, show i + 1 ≤ 8 by omega]
  rw [slotOf_wave p b (by omega), h.isZeroTone_signedTone, hdata]

theorem demodulate_of_slots {blk : Block} {b : Byte} {variantB : Bool}
    (hdata : ∀ i, i < 8 → isZeroTone p (slotOf blk (i + 1)) = b.getLsbD i)
    (hstart : (slotOf blk 0 == negList p.tone1.toList) = variantB) : demodulate p blk = (b, variantB) := by
  have hbits : (List.range 8).map (fun i => isZeroTone p (slotOf blk (i + 1))) = (List.range 8).map fun i => b.getLsbD i :=
    List.map_congr_left fun i hi => hdata i (List.mem_range.1 hi)
  unfold demodulate
  rw [hbits, hstart, ofBoolListLE_bits]

end

/-- Settles O40: slots 1 to 8 tell the bits in either polarity (T6), and slot 0 is one-tone in the variant's polarity. -/
theorem byteIsRecoverableFromItsBlock : Obligations.ByteIsRecoverableFromItsBlock := by
  intro p b h
  have hstart : slotOf (wave p b) 0 = p.tone1.toList := slotOf_wave p b (by decide)
  refine ⟨demodulate_of_slots (fun i hi => h.isZeroTone_dataSlot b hi) ?_,
    demodulate_of_slots (blk := negBlock (wave p b)) (fun i hi => ?_) ?_⟩
  · show (slotOf (wave p b) 0 == _) = false
    rw [hstart]
    exact beq_eq_false_iff_ne.2 h.one_ne_neg
  · rw [slotOf_negBlock, isZeroTone_negList]
    exact h.isZeroTone_dataSlot b hi
  · rw [slotOf_negBlock, hstart]
    exact BEq.rfl

/-- Settles O32: the printed ROM, property by property. -/
theorem defaultRomHasToneProperties : Obligations.DefaultRomHasToneProperties :=
  ⟨{ t1 := by decide
     t2 := by decide
     t3 := by decide
     t4 := by decide
     t5 := by decide
     t6 := by decide +kernel
     t7 := by decide }, by decide⟩

/-- Settles O33: the idle pattern sample by sample is `idleWf_getElem`. -/
theorem fixedPatternsAreAsStated : Obligations.FixedPatternsAreAsStated := by
  refine ⟨silenceWf_getElem, fun p h => ⟨idleWf_getElem p, (idleWf_getElem p 0).trans h.t1.1, idleWf_getElem p 119,
    sampleSum_idleWf h⟩, ?_⟩
  have hlast : (idleWf standardParams)[119] = -standardParams.tone0[9] := idleWf_getElem standardParams 119
  rw [hlast]
  decide

/-- Settles O34: the statement's test of a slot and count before it are `isZeroSlot` and `zerosBefore`. -/
theorem waveformSlotsFollowBitsAndSense : Obligations.WaveformSlotsFollowBitsAndSense := fun p b j k =>
  wave_getElem p b j.isLt k.isLt

/-- Settles O35: silence is its own negation and ends on a zero, which counts as non-negative. -/
theorem silenceRecordAndFetch : Obligations.SilenceRecordAndFetch :=
  ⟨silenceWf_getElem, fun s => ⟨render_silence s.params, _, execFetch_code s .silence,
    congrArg Output.returned s.fetch_silence_block, s.fetch_silence_lastSense⟩⟩

/-- Settles O36: variant B negates each of the twelve tones. -/
theorem idleRecordAndFetch : Obligations.IdleRecordAndFetch := by
  intro s h
  refine ⟨rfl, ?_, contFlag_idleWf h, _, execFetch_code s .idle, s.fetch_idle_lastSense h⟩
  show negList (idleWf s.params).toList = _
  rw [idleWf_toList, negList_rep, negList_append, negList_negList]

/-- Settles O38: the flag is the sign of sample 119, which for a byte is `wave_last`. -/
theorem continuityFlagIsEvenParity : Obligations.ContinuityFlagIsEvenParity := fun _ h =>
  ⟨fun _ => contFlag_iff _, contFlag_wave h, contFlag_silenceWf, contFlag_idleWf h⟩

/-- Settles O41: T1 gives the slot starts, and zero-tones of opposite sense cancel (`sampleSum_emitSlots`). -/
theorem waveformSumsAndSlotStarts : Obligations.WaveformSumsAndSlotStarts := by
  refine ⟨fun p h => ⟨fun y j => ⟨variantA_slotStart h y j, ?_⟩, sampleSum_wave h, sampleSum_silenceWf, sampleSum_idleWf h⟩,
    fun b => ?_⟩
  · refine (neg_getElem (variantA p y) (10 * j.val) (by omega)).trans ?_
    rw [variantA_slotStart h y j]
    rfl
  · obtain ⟨hrom, hsum⟩ := defaultRomHasToneProperties
    refine (sampleSum_wave hrom b).trans ?_
    rw [hsum]

end Sys2Proof.Machine
end

section
/-! Two blocks fetched one after the other (R93). -/

namespace Sys2Proof.Machine

section

variable {p : Params}

/-- A sample of the variant a phase selects. -/
theorem variantOf_toInt (h : ToneOk p) (y : Symbol) (sense : Bool) {k : Nat} (hk : k < 120) :
    (variantOf (render p y) sense)[k].toInt = if sense then -(variantA p y)[k].toInt else (variantA p y)[k].toInt := by
  cases sense with
  | false => rfl
  | true =>
    show (negBlock (variantA p y))[k].toInt = _
    rw [neg_getElem]
    exact toInt_neg_of_bounds ((variantA_fromRom y ⟨k, hk⟩).bounds h).1

/-- With the default ROM variant A of every symbol starts upwards. -/
theorem variantA_second_nonneg (z : Symbol) : 0 ≤ (variantA standardParams z)[1].toInt := by
  cases z with
  | byte b =>
    have hsecond : (wave standardParams b)[1] = standardParams.tone1[1] :=
      wave_getElem standardParams b (j := 0) (k := 1) (by decide) (by decide)
    rw [variantA, hsecond]
    decide
  | silence => decide
  | idle =>
    have hsecond : (idleWf standardParams)[1] = standardParams.tone0[1] := idleWf_getElem standardParams 1
    rw [variantA, hsecond]
    decide

end

/-- Settles O42: the phase after a FETCH is 1 exactly where the block fetched ends upwards, or on a zero; and the next block's sample 1 is
not positive under phase 1 and not negative under phase 0. -/
theorem consecutiveFetchesAreContinuous : Obligations.ConsecutiveFetchesAreContinuous := by
  intro s y z hp
  obtain ⟨hrom, -⟩ := defaultRomHasToneProperties
  have hcont : (render standardParams y).cont = true ↔ 0 ≤ (variantA standardParams y)[119].toInt := contFlag_iff _
  have hlast := variantOf_toInt hrom y s.lastSense (k := 119) (by decide)
  have hnext := variantOf_toInt hrom z (phaseAfter s.lastSense (render standardParams y).cont) (k := 1) (by decide)
  have hup := variantA_second_nonneg z
  have hx : (s.fetch y).1 = variantOf (render standardParams y) s.lastSense := by rw [← hp]; rfl
  have hw : ((s.fetch y).2.fetch z).1 =
      variantOf (render standardParams z) (phaseAfter s.lastSense (render standardParams y).cont) := by rw [← hp]; rfl
  rw [hx, hw]
  dsimp only
  rw [hlast, hnext]
  cases hc : (render standardParams y).cont <;> rw [hc] at hcont <;> cases s.lastSense <;>
    simp [phaseAfter] at hcont ⊢ <;> omega

end Sys2Proof.Machine
end

section
/-! The queue as a list (R96, R103, R105): what every operation does to its contents, and that nothing else in the slots matters. -/

namespace Sys2Proof.Machine

section

variable {i : Instr} {s t : State}

/-! The remaining forms of ENQ and TICK -/

/-- ENQ where P sees no room: refused in the form of a SEND or in the other (R99). -/
theorem execEnq_full (hf : s.fullP = true) :
    exec .enq s = .next (if s.hold.isSome then s.raisePort .full else s.raiseInner .full) := by
  rcases execEnq_cases s with ⟨hh, _, e⟩ | ⟨_, hroom, _⟩ | ⟨hh, _, e⟩ | ⟨b, _, hroom, _⟩
  · rw [e, hh]; rfl
  · simp [hf] at hroom
  · rw [e, if_pos hh]
  · simp [hf] at hroom

/-- ENQ where P sees room, in both forms: the block of `State.enqueue` (R98). -/
theorem execEnq_room (hf : s.fullP = false) : exec .enq s = .next (if s.hold.isSome
    then State.respond { s.enqueue (s.hold.getD s.dataPath) with hold := none, sendIdx := 0 } .ok
    else (s.enqueue (s.hold.getD s.dataPath)).answer (.status .ok)) := by
  cases hh : s.hold with
  | some blk => exact execEnq_held hh hf
  | none => exact execEnq_alone hh hf

/-- A TICK where C sees no block and the carrier on (R116). -/
theorem execTick_idle (h : s.emptyC = true) (hc : s.carrierC = true) : exec .tick s =
    .next (State.answer { (s.noteCarrier.fetch .idle).2 with seqState := .carrierIdle } (.emitted (s.fetch .idle).1 true)) := by
  rcases execTick_cases s with ⟨hn, _⟩ | ⟨_, _, e⟩ | ⟨_, hoff, _⟩
  · simp [h] at hn
  · exact e
  · simp [hc] at hoff

/-- A TICK where C sees no block and the carrier off (R116). -/
theorem execTick_silent (h : s.emptyC = true) (hc : s.carrierC = false) : exec .tick s =
    .next (State.answer { (s.noteCarrier.fetch .silence).2 with seqState := .silent }
      (.emitted (s.fetch .silence).1 true)) := by
  rcases execTick_cases s with ⟨hn, _⟩ | ⟨_, hon, _⟩ | ⟨_, _, e⟩
  · simp [h] at hn
  · simp [hc] at hon
  · exact e

/-! What each operation does to the list -/

theorem contents_eq_nil (h : s.occupancy = 0) : s.contents = [] :=
  List.eq_nil_of_length_eq_zero ((contents_length s).trans h)

theorem resetAll_contents (s : State) : s.resetAll.contents = [] := contents_eq_nil (cursor_sub_self 0#5)

/-- ENQ with room appends its block. -/
theorem exec_contents_enq (h : s.viewsOk) (hf : s.fullP = false) (he : exec .enq s = .next t) :
    t.contents = s.contents ++ [s.hold.getD s.dataPath] := by
  have happend := contents_enqueue (occupancy_lt h hf) (s.hold.getD s.dataPath)
  cases (execEnq_room hf).symm.trans he
  split <;> exact happend

/-- The block C sees first is the head of the list, and with `rd` moved on the rest remains. -/
theorem contents_head (h : s.viewsOk) (hc : s.emptyC = false) : s.contents = s.slotRead s.rd :: s.advance.contents :=
  contents_advance (occupancy_pos h hc)

theorem exec_contents_advr (h : s.viewsOk) (hc : s.emptyC = false) (he : exec .advr s = .next t) :
    t.contents = s.contents.tail := by
  rw [contents_head h hc]
  cases (execAdvr_head hc).symm.trans he
  rfl

theorem exec_contents_tick (h : s.viewsOk) (hc : s.emptyC = false) (he : exec .tick s = .next t) :
    t.contents = s.contents.tail ∧ t.out = .emitted (s.slotRead s.rd) true := by
  rw [contents_head h hc]
  cases (execTick_draining hc).symm.trans he
  exact ⟨rfl, rfl⟩

/-- Every other operation, and one of these that finds no room or no block, leaves the list. -/
theorem exec_contents_same (hi : i ≠ .reset) (hq : i ≠ .enq ∨ s.fullP = true) (ha : i ≠ .advr ∨ s.emptyC = true)
    (hk : i ≠ .tick ∨ s.emptyC = true) (he : exec i s = .next t) : t.contents = s.contents := by
  have ho := exec_ownersOnly hi he
  have hstored : t.slots = s.slots ∧ t.wr = s.wr := by
    by_cases henq : i = .enq
    · subst henq
      cases (execEnq_full (hq.resolve_left fun h => h rfl)).symm.trans he
      split <;> exact ⟨rfl, rfl⟩
    · exact ⟨ho.slots henq, ho.wr henq⟩
  have hrd : t.rd = s.rd := by
    by_cases hadvr : i = .advr
    · subst hadvr
      cases (execAdvr_empty (ha.resolve_left fun h => h rfl)).symm.trans he
      rfl
    · by_cases htick : i = .tick
      · subst htick
        have hempty := hk.resolve_left fun h => h rfl
        rcases execTick_cases s with ⟨hn, _⟩ | ⟨_, _, e⟩ | ⟨_, _, e⟩
        · simp [hempty] at hn
        · cases e.symm.trans he; rfl
        · cases e.symm.trans he; rfl
      · exact ho.rd hadvr htick
  exact contents_congr hstored.1 hstored.2 hrd

/-- The list after any operation: empty, a block longer, a block shorter, or the same. -/
theorem exec_contents_cases (h : s.viewsOk) (he : exec i s = .next t) :
    (i = .reset ∧ t.contents = []) ∨
    (i = .enq ∧ s.fullP = false ∧ t.contents = s.contents ++ [s.hold.getD s.dataPath]) ∨
    ((i = .advr ∨ i = .tick) ∧ s.emptyC = false ∧ t.contents = s.contents.tail) ∨
    (i ≠ .reset ∧ (i ≠ .enq ∨ s.fullP = true) ∧ (i ≠ .advr ∨ s.emptyC = true) ∧ (i ≠ .tick ∨ s.emptyC = true) ∧
      t.contents = s.contents) := by
  by_cases hi : i = .reset
  · subst hi; cases he; exact .inl ⟨rfl, resetAll_contents s⟩
  · by_cases hq : i = .enq ∧ s.fullP = false
    · obtain ⟨rfl, hf⟩ := hq
      exact .inr (.inl ⟨rfl, hf, exec_contents_enq h hf he⟩)
    · by_cases ha : (i = .advr ∨ i = .tick) ∧ s.emptyC = false
      · obtain ⟨rfl | rfl, hc⟩ := ha
        · exact .inr (.inr (.inl ⟨.inl rfl, hc, exec_contents_advr h hc he⟩))
        · exact .inr (.inr (.inl ⟨.inr rfl, hc, (exec_contents_tick h hc he).1⟩))
      · rw [not_and_or, Bool.not_eq_false] at hq ha
        rw [not_or, and_or_right] at ha
        exact .inr (.inr (.inr ⟨hi, hq, ha.1, ha.2, exec_contents_same hi hq ha.1 ha.2 he⟩))

end

/-- Settles O44: the operations with an effect on the list one by one, then all the others at once. -/
theorem queueIsAFifoList : Obligations.QueueIsAFifoList := by
  intro i s t h he
  refine ⟨?enq, ?peek, ?advr, ?tick, ?reset, fun hq ha hk hi => exec_contents_same hi hq ha hk he⟩
  case enq => rintro rfl hf; exact exec_contents_enq h hf he
  case peek =>
    rintro rfl hc
    rw [contents_head h hc]
    cases (execPeek_head hc).symm.trans he
    exact ⟨rfl, rfl⟩
  case advr => rintro rfl hc; exact exec_contents_advr h hc he
  case tick =>
    rintro rfl hc
    obtain ⟨htail, hout⟩ := exec_contents_tick h hc he
    exact ⟨htail, _, by rw [contents_head h hc]; rfl, hout⟩
  case reset => rintro rfl; cases he; exact resetAll_contents s

section

variable {i : Instr} {s t : State}

/-! The same list on the same questions (R105) -/

/-- What decides how an operation changes the list: its contents, the block offered, and both sides' tests. -/
structure SameQueue (s s' : State) : Prop where
  contents : s'.contents = s.contents
  hold : s'.hold = s.hold
  dataPath : s'.dataPath = s.dataPath
  fullP : s'.fullP = s.fullP
  emptyC : s'.emptyC = s.emptyC

/-- Two states with the same queue have the same list after the same operation. -/
theorem SameQueue.after {s' t' : State} (d : SameQueue s s') (h : s.viewsOk) (h' : s'.viewsOk) (he : exec i s = .next t)
    (he' : exec i s' = .next t') : t'.contents = t.contents := by
  rcases exec_contents_cases h he with ⟨rfl, e⟩ | ⟨rfl, hf, e⟩ | ⟨rfl | rfl, hc, e⟩ | ⟨hi, hq, ha, hk, e⟩ <;> rw [e]
  · cases he'; exact resetAll_contents s'
  · rw [exec_contents_enq h' (d.fullP.trans hf) he', d.contents, d.hold, d.dataPath]
  · rw [exec_contents_advr h' (d.emptyC.trans hc) he', d.contents]
  · rw [(exec_contents_tick h' (d.emptyC.trans hc) he').1, d.contents]
  · rw [← d.fullP] at hq
    rw [← d.emptyC] at ha hk
    exact (exec_contents_same hi hq ha hk he').trans d.contents

/-! Operations on a state with other slots -/

def State.withSlots (s : State) (v : Vector Block 16) : State := { s with slots := v }

/-- Other slots in the state an operation leaves. -/
def outcomeWithSlots (v : Vector Block 16) : Host.Outcome State Fault Refusal → Host.Outcome State Fault Refusal
  | .next s => .next (s.withSlots v)
  | .fault r => .fault r
  | .refused r => .refused r

variable (s) (v : Vector Block 16)

theorem portOpen_withSlots (k : State) : (s.withSlots v).portOpen (k.withSlots v) = outcomeWithSlots v (s.portOpen k) := by
  show (if s.hold.isSome then _ else _) = outcomeWithSlots v (if s.hold.isSome then _ else _)
  split <;> rfl

theorem sendAnswer_withSlots (full : Bool) (arg : SymCode) :
    sendAnswer ((s.withSlots v).sendStep1 full arg) = (sendAnswer (s.sendStep1 full arg)).withSlots v := by
  unfold State.sendStep1
  cases byteOf arg with
  | none => rfl
  | some b => cases full <;> rfl

/-- Operations that neither read nor write a slot. -/
def touchesSlots : Instr → Bool
  | .enq => true
  | .peek => true
  | .tick => true
  | .reset => true
  | .send _ => false
  | .setc _ => false
  | .isdr => false
  | .build _ => false
  | .fetch _ => false
  | .advr => false
  | .syncw => false
  | .syncr => false
  | .syncc => false

/-- An operation that touches no slot does the same whatever stands in them. -/
theorem exec_withSlots (hi : touchesSlots i = false) : exec i (s.withSlots v) = outcomeWithSlots v (exec i s) := by
  cases i with
  | send arg =>
    show (s.withSlots v).portOpen (sendAnswer ((s.withSlots v).sendStep1 s.fullP arg)) = _
    rw [sendAnswer_withSlots, portOpen_withSlots]
    rfl
  | setc b => exact portOpen_withSlots s v ((s.setCarrier b).respond .ok)
  | isdr => exact portOpen_withSlots s v (s.respond .ok)
  | build sym =>
    have hparams : (s.withSlots v).params = s.params := rfl
    show execBuild sym (s.withSlots v) = outcomeWithSlots v (execBuild sym s)
    unfold execBuild
    rw [hparams]
    cases build s.params sym <;> rfl
  | fetch sym =>
    show execFetch sym (s.withSlots v) = outcomeWithSlots v (execFetch sym s)
    unfold execFetch
    cases symbolOf sym <;> rfl
  | advr =>
    show (if s.emptyC then _ else _) = outcomeWithSlots v (if s.emptyC then _ else _)
    split <;> rfl
  | syncw =>
    show (if s.wrC = s.wr then _ else _) = outcomeWithSlots v (if s.wrC = s.wr then _ else _)
    split <;> rfl
  | syncr =>
    show (if s.rdP = s.rd then _ else _) = outcomeWithSlots v (if s.rdP = s.rd then _ else _)
    split <;> rfl
  | syncc =>
    show (if s.carrierC = s.carrier then _ else _) = outcomeWithSlots v (if s.carrierC = s.carrier then _ else _)
    split <;> rfl
  | _ => cases hi

/-- Two outcomes that a caller cannot tell apart, the slots aside. -/
inductive AnswersAlike : Host.Outcome State Fault Refusal → Host.Outcome State Fault Refusal → Prop
  | next {t : State} (v : Vector Block 16) : AnswersAlike (.next t) (.next (t.withSlots v))
  | refused (r : Refusal) : AnswersAlike (.refused r) (.refused r)

theorem outcomeWithSlots_answersAlike (o : Host.Outcome State Fault Refusal) : AnswersAlike o (outcomeWithSlots v o) := by
  cases o with
  | next t => exact .next v
  | fault r => cases r
  | refused r => exact .refused r

/-- C's head block is that of the list. -/
theorem slotRead_withSlots_head (h : s.viewsOk) (hc : s.emptyC = false) (hlist : (s.withSlots v).contents = s.contents) :
    (s.withSlots v).slotRead s.rd = s.slotRead s.rd := by
  have hhead : (s.withSlots v).contents = (s.withSlots v).slotRead s.rd :: _ := contents_head (s := s.withSlots v) h hc
  rw [hlist, contents_head h hc] at hhead
  exact (List.cons.inj hhead).1.symm

/-- With the same list in other slots every operation answers alike. -/
theorem exec_answersAlike (i : Instr) (h : s.viewsOk) (hlist : (s.withSlots v).contents = s.contents) :
    AnswersAlike (exec i s) (exec i (s.withSlots v)) := by
  cases i with
  | enq =>
    cases hf : s.fullP with
    | true =>
      rw [execEnq_full hf, execEnq_full (s := s.withSlots v) hf]
      show AnswersAlike (.next (if s.hold.isSome then _ else _)) (.next (if s.hold.isSome then _ else _))
      split <;> exact .next v
    | false =>
      rw [execEnq_room hf, execEnq_room (s := s.withSlots v) hf]
      show AnswersAlike (.next (if s.hold.isSome then _ else _)) (.next (if s.hold.isSome then _ else _))
      split <;> exact .next (v.set (slotIndex s.wr) (s.hold.getD s.dataPath))
  | peek =>
    cases hc : s.emptyC with
    | true =>
      rw [execPeek_empty hc, execPeek_empty (s := s.withSlots v) hc]
      exact .next v
    | false =>
      have hhead := slotRead_withSlots_head s v h hc hlist
      rw [execPeek_head hc, execPeek_head (s := s.withSlots v) hc]
      show AnswersAlike _ (.next ((s.withSlots v).answer (.returned ((s.withSlots v).slotRead s.rd))))
      rw [hhead]
      exact .next v
  | tick =>
    rcases execTick_cases s with ⟨hc, e⟩ | ⟨hc, hon, e⟩ | ⟨hc, hoff, e⟩
    · have hhead := slotRead_withSlots_head s v h hc hlist
      rw [e, execTick_draining (s := s.withSlots v) hc]
      show AnswersAlike _ (.next (State.answer _ (.emitted ((s.withSlots v).slotRead s.rd) true)))
      rw [hhead]
      exact .next v
    · rw [e, execTick_idle (s := s.withSlots v) hc hon]
      exact .next v
    · rw [e, execTick_silent (s := s.withSlots v) hc hoff]
      exact .next v
  | reset => exact .next s.resetAll.slots
  | _ =>
    rw [exec_withSlots s v rfl]
    exact outcomeWithSlots_answersAlike v _

end

/-- Settles O47: the operations answer alike, and the lists after are the same because they are decided by the lists before. -/
theorem unoccupiedSlotsNeverMatter : Obligations.UnoccupiedSlotsNeverMatter := by
  rintro i s s' h ⟨hs', hlist⟩
  obtain ⟨v, rfl⟩ : ∃ v, s' = s.withSlots v := ⟨s'.slots, hs'⟩
  have halike := exec_answersAlike s v i h hlist
  have hlists : ∀ t t', exec i s = .next t → exec i (s.withSlots v) = .next t' → t'.contents = t.contents := fun t t' =>
    SameQueue.after ⟨hlist, rfl, rfl, rfl, rfl⟩ h h
  generalize exec i s = o at halike hlists
  generalize exec i (s.withSlots v) = o' at halike hlists
  cases halike with
  | next v' =>
    refine ⟨fun t ht => ?_, by simp⟩
    cases ht
    exact ⟨_, rfl, rfl, rfl, hlists _ _ rfl rfl⟩
  | refused r => exact ⟨by simp, fun _ => Iff.rfl⟩

section

variable {i : Instr} {s t : State}

/-! Cached variants (R123) -/

/-- Either variant of a symbol is cached. -/
theorem isCached_variantOf (p : Params) (y : Symbol) (sense : Bool) : isCached p (variantOf (render p y) sense) := by
  cases sense
  · exact ⟨y, .inl rfl⟩
  · exact ⟨y, .inr rfl⟩

/-- A block in the list after an operation was in it before, or is the one offered to ENQ. -/
theorem mem_contents_after (h : s.viewsOk) (he : exec i s = .next t) {blk : Block} (hb : blk ∈ t.contents) :
    blk ∈ s.contents ∨ (i = .enq ∧ blk = s.hold.getD s.dataPath) := by
  rcases exec_contents_cases h he with ⟨-, e⟩ | ⟨hi, -, e⟩ | ⟨-, -, e⟩ | ⟨-, -, -, -, e⟩ <;> rw [e] at hb
  · cases hb
  · rw [List.mem_append, List.mem_singleton] at hb
    exact hb.imp_right fun hlast => ⟨hi, hlast⟩
  · exact .inl (List.mem_of_mem_tail hb)
  · exact .inl hb

/-- A block in `hold` after an operation was there before, or is the variant a SEND has FETCHed. -/
theorem exec_hold (he : exec i s = .next t) {blk : Block} (hb : t.hold = some blk) :
    s.hold = some blk ∨ isCached s.params blk := by
  cases i with
  | send arg =>
    rcases execSend_cases s arg with ⟨_, e⟩ | ⟨_, _, e⟩ | ⟨b, _, _, _, e⟩ | ⟨b, _, _, _, e⟩ <;> cases e.symm.trans he
    · exact .inl hb
    · exact .inl hb
    · cases hb
      exact .inr (isCached_variantOf _ _ _)
  | enq =>
    rcases execEnq_cases s with ⟨_, _, e⟩ | ⟨_, _, e⟩ | ⟨_, _, e⟩ | ⟨b, _, _, e⟩ <;> cases e.symm.trans he
    · exact .inl hb
    · exact .inl hb
    · exact .inl hb
    · cases hb
  | reset => cases he; cases hb
  | _ =>
    have hsame := (exec_ownersOnly (by simp) he).hold (by simp) (by simp)
    exact .inl (hsame.symm.trans hb)

/-- What a TICK emits is the head of the list or a variant of a fallback symbol (R115), with the continue signal. -/
theorem execTick_emits (h : s.viewsOk) (he : exec .tick s = .next t) {blk : Block} {cont : Bool}
    (ho : t.out = .emitted blk cont) : (blk ∈ s.contents ∨ isCached s.params blk) ∧ cont = true := by
  rcases execTick_cases s with ⟨hc, e⟩ | ⟨_, _, e⟩ | ⟨_, _, e⟩ <;> cases e.symm.trans he <;> cases ho
  · rw [contents_head h hc]
    exact ⟨.inl List.mem_cons_self, rfl⟩
  · exact ⟨.inr (isCached_variantOf _ _ _), rfl⟩
  · exact ⟨.inr (isCached_variantOf _ _ _), rfl⟩

end

/-- Settles O48: the only block that enters the list is the one in `hold`, and the only one that enters `hold` is a FETCHed variant. -/
theorem emittedBlocksAreCachedVariants : Obligations.EmittedBlocksAreCachedVariants := by
  intro i s t h hcached hheld he
  have hp := exec_params he
  refine ⟨⟨fun blk hb => ?queue, fun blk hb => ?held⟩, fun blk cont hi ho => ?emitted⟩
  case queue =>
    rw [hp]
    rcases mem_contents_after h he hb with hold | ⟨hi, hoffered⟩
    · exact hcached.queue blk hold
    · obtain ⟨kept, hkept⟩ := Option.ne_none_iff_exists'.1 (hheld hi)
      rw [hoffered, hkept]
      exact hcached.held kept hkept
  case held =>
    rw [hp]
    exact (exec_hold he hb).elim (hcached.held blk) id
  case emitted =>
    subst hi
    obtain ⟨hblk, hcont⟩ := execTick_emits h he ho
    exact ⟨hblk.elim (hcached.queue blk) id, hcont⟩

end Sys2Proof.Machine
end

section
/-! The queue in use (R41, R103, R122): slots apart, sixteen blocks in and out, and a SEND that others interrupt. -/

namespace Sys2Proof.Machine

section

variable {s t : State}

/-! Slots -/

/-- With room in P's view, the slot at `wr` is none of the occupied ones. -/
theorem slotIndex_wr_ne {k : Nat} (h : s.viewsOk) (hf : s.fullP = false) (hk : k < s.occupancy) :
    slotIndex s.wr ≠ slotIndex (s.rd + BitVec.ofNat 5 k) := by
  have hroom := occupancy_lt h hf
  intro heq
  rw [← rd_add_occupancy s] at heq
  have hsame := slotIndex_add_inj hroom (by omega) heq
  omega

/-! Blocks in and out -/

/-- Blocks offered one after the other are appended in order, while P knows the queue's true length and there is room. -/
theorem offerBlocks_appends {blks : List Block} (hh : s.hold = none) (hview : s.rdP = s.rd)
    (hroom : s.occupancy + blks.length ≤ 16) :
    ∃ t, offerBlocks blks s = .next t ∧ t.wr = s.wr + BitVec.ofNat 5 blks.length ∧ t.contents = s.contents ++ blks := by
  induction blks generalizing s with
  | nil => exact ⟨s, rfl, (BitVec.add_zero s.wr).symm, (List.append_nil _).symm⟩
  | cons blk rest ih =>
    rw [List.length_cons] at hroom
    have hfull : ({ s with dataPath := blk } : State).fullP = false := by
      rw [fullP_iff]
      show s.wr - s.rdP ≠ 16#5
      rw [hview]
      intro h16
      have hocc : s.occupancy = 16 := congrArg BitVec.toNat h16
      omega
    have hocc : (s.enqueue blk).occupancy = s.occupancy + 1 :=
      cursor_succ_sub (x := s.rd) (y := s.wr) (by change s.occupancy < 31; omega)
    have htaken : offerBlock blk s = _ := execEnq_alone hh hfull
    have hcontents : ((s.enqueue blk).answer (.status .ok)).contents = s.contents ++ [blk] := contents_enqueue (by omega) blk
    obtain ⟨t, ht, hwr, hlist⟩ := ih (s := (State.enqueue { s with dataPath := blk } blk).answer (.status .ok)) hh hview
      (by change (s.enqueue blk).occupancy + _ ≤ 16; omega)
    refine ⟨t, ?_, ?_, ?_⟩
    · rw [offerBlocks, htaken]
      exact ht
    · rw [hwr, List.length_cons, Nat.add_comm rest.length 1, BitVec.ofNat_add]
      exact BitVec.add_assoc _ _ _
    · refine hlist.trans ((congrArg (· ++ rest) hcontents).trans ?_)
      rw [List.append_assoc, List.singleton_append]

/-- PEEK and ADVR take the list out block by block, and the last PEEK finds nothing. -/
theorem runShowing_drains {blks : List Block} (hview : s.wrC = s.wr) (hlist : s.contents = blks) :
    (runShowing ((List.replicate blks.length [Instr.peek, Instr.advr]).flatten ++ [.peek]) s).1 =
      (blks.map (fun blk => [Output.returned blk, Output.status .ok])).flatten ++ [.status .empty] := by
  have hlen : s.occupancy = blks.length := by rw [← hlist, contents_length]
  induction blks generalizing s with
  | nil =>
    have hempty : s.emptyC = true := beq_iff_eq.2 (hview.trans (cursor_sub_zero.1 hlen))
    have hpeek := execPeek_empty hempty
    simp only [List.length_nil, List.replicate_zero, List.flatten_nil, List.nil_append, List.map_nil, runShowing, hpeek]
    rfl
  | cons blk rest ih =>
    have hpos : 0 < s.occupancy := by rw [hlen, List.length_cons]; omega
    have hsees : s.emptyC = false := emptyC_iff.2 fun hc => by
      have h0 : s.occupancy = 0 := cursor_sub_zero.2 (hview.symm.trans hc)
      omega
    have hcons := (contents_advance hpos).symm.trans hlist
    obtain ⟨rfl, htail⟩ := List.cons.inj hcons
    have hpeek := execPeek_head hsees
    have hadvr := execAdvr_head (s := s.answer (.returned (s.slotRead s.rd))) hsees
    have hrest := ih (s := ((s.answer (.returned (s.slotRead s.rd))).advance).answer (.status .ok)) hview htail
      (by rw [← contents_length]; exact congrArg List.length htail)
    simp only [List.length_cons, List.replicate_succ, List.flatten_cons, List.cons_append, List.nil_append, List.map_cons,
      runShowing, hpeek, hadvr, hrest, State.answer_out]

/-! A SEND between its steps -/

/-- A SEND between its steps: its block is in `hold`, and P sees room for it at `w`. -/
structure Pending (blk : Block) (w : Cursor) (s : State) : Prop where
  views : s.viewsOk
  held : s.hold = some blk
  room : s.fullP = false
  wr : s.wr = w

/-- The first stages may be left out of the chain. -/
theorem Chain.closeUp {a b c d e f : Cursor} (h : Chain a b c d e f) : Chain a a c d d f := by
  have hle := h.le
  have hrd := h.rdLag
  have hwr := h.wrLag
  have h1 := cursor_sub_self a
  have h2 := cursor_sub_self d
  exact ⟨by omega⟩

theorem viewsOk_iff : s.viewsOk ↔ Chain s.rdP s.rdP s.rd s.wrC s.wrC s.wr := by
  have h1 := cursor_sub_self s.rdP
  have h2 := cursor_sub_self s.wrC
  unfold State.viewsOk
  exact ⟨fun h => ⟨by omega⟩, fun h => by have hle := h.le; omega⟩

section

variable {blk : Block} {w : Cursor}

/-- A state with the same cursors, views and `hold`. -/
theorem Pending.same (h : Pending blk w s) (hwr : t.wr = s.wr) (hrd : t.rd = s.rd) (hwc : t.wrC = s.wrC) (hrp : t.rdP = s.rdP)
    (hh : t.hold = s.hold) : Pending blk w t := by
  refine ⟨?_, hh.trans h.held, ?_, hwr.trans h.wr⟩
  · have hviews := h.views
    unfold State.viewsOk at hviews ⊢
    rwa [hwr, hrd, hwc, hrp]
  · have hroom := h.room
    unfold State.fullP at hroom ⊢
    rwa [hwr, hrp]

/-- C retires a block: room is as P sees it. -/
theorem Pending.pop (h : Pending blk w s) (hc : s.emptyC = false) : Pending blk w s.advance := by
  have hpop := (viewsOk_iff.1 h.views).pop (emptyC_iff.1 hc)
  exact ⟨viewsOk_iff.2 hpop, h.held, h.room, h.wr⟩

/-- X moves C's view. -/
theorem Pending.seeWr (h : Pending blk w s) : Pending blk w (s.setWrC s.nextWrC) := by
  have hseen := ((viewsOk_iff.1 h.views).seeWr (viewAdvance_le (s.wr - s.wrC) s.choice)).1
  exact ⟨viewsOk_iff.2 hseen.closeUp, h.held, h.room, h.wr⟩

/-- X moves P's view: the room P sees does not shrink. -/
theorem Pending.seeRd (h : Pending blk w s) : Pending blk w (s.setRdP s.nextRdP) := by
  have hchain := viewsOk_iff.1 h.views
  have hlag := viewAdvance_le (s.rd - s.rdP) s.choice
  have hseen := hchain.seeRd hlag
  have hnearer : (s.rd - (s.rdP + viewAdvance (s.rd - s.rdP) s.choice)).toNat ≤ (s.rd - s.rdP).toNat := by
    have hmove := (cursor_move hlag).2
    omega
  exact ⟨viewsOk_iff.2 hseen.closeUp, h.held, fullP_iff.2 (hchain.room (fullP_iff.1 h.room) hseen hnearer), h.wr⟩

/-- Nothing that C or X does disturbs a pending SEND. -/
theorem Pending.beside {j : Instr} (h : Pending blk w s) (hj : besideProducer j = true) (he : exec j s = .next t) :
    Pending blk w t := by
  cases j with
  | build sym => rcases execBuild_cases s sym with ⟨_, e⟩ | ⟨_, _, e⟩ <;> cases e.symm.trans he <;> exact h.same rfl rfl rfl rfl rfl
  | fetch sym => rcases execFetch_cases s sym with ⟨_, e⟩ | ⟨_, _, e⟩ <;> cases e.symm.trans he <;> exact h.same rfl rfl rfl rfl rfl
  | peek => rcases execPeek_cases s with ⟨_, e⟩ | ⟨_, e⟩ <;> cases e.symm.trans he <;> exact h.same rfl rfl rfl rfl rfl
  | advr =>
    rcases execAdvr_cases s with ⟨_, e⟩ | ⟨hc, e⟩ <;> cases e.symm.trans he
    · exact h.same rfl rfl rfl rfl rfl
    · exact (h.pop hc).same rfl rfl rfl rfl rfl
  | tick =>
    rcases execTick_cases s with ⟨hc, e⟩ | ⟨_, _, e⟩ | ⟨_, _, e⟩ <;> cases e.symm.trans he
    · exact (h.pop hc).same rfl rfl rfl rfl rfl
    · exact h.same rfl rfl rfl rfl rfl
    · exact h.same rfl rfl rfl rfl rfl
  | syncw =>
    rcases execSyncw_cases s with ⟨_, e⟩ | ⟨_, e⟩ <;> cases e.symm.trans he
    · exact h.same rfl rfl rfl rfl rfl
    · exact h.seeWr.same rfl rfl rfl rfl rfl
  | syncr =>
    rcases execSyncr_cases s with ⟨_, e⟩ | ⟨_, e⟩ <;> cases e.symm.trans he
    · exact h.same rfl rfl rfl rfl rfl
    · exact h.seeRd.same rfl rfl rfl rfl rfl
  | syncc => rcases execSyncc_cases s with ⟨_, e⟩ | ⟨_, e⟩ <;> cases e.symm.trans he <;> exact h.same rfl rfl rfl rfl rfl
  | _ => cases hj

theorem Pending.runOps {js : List Instr} (h : Pending blk w s) (hjs : ∀ j ∈ js, besideProducer j = true)
    (he : runOps js s = .next t) : Pending blk w t := by
  induction js generalizing s with
  | nil => cases he; exact h
  | cons j js ih =>
    obtain ⟨hj, hrest⟩ := List.forall_mem_cons.1 hjs
    obtain ⟨x, hx, ht⟩ := andThen_eq_next.1 he
    exact ih (h.beside hj hx) hrest ht

end

end

/-- Settles O46: the slots C may read are among the occupied ones. -/
theorem writtenAndReadSlotsAreDisjoint : Obligations.WrittenAndReadSlotsAreDisjoint := by
  intro s k h hf hk
  have hocc := h.occupancy_eq
  exact slotIndex_wr_ne h hf (by omega)

/-- Settles O45: the blocks offered become the list, and the list comes out from its head. -/
theorem sixteenBlocksComeOutInOrder : Obligations.SixteenBlocksComeOutInOrder := by
  intro s blks hh hempty hrp hwc hn
  have hocc : s.occupancy = 0 := cursor_sub_zero.2 hempty
  obtain ⟨t, ht, hwr, hlist⟩ := offerBlocks_appends hh hrp (blks := blks) (by omega)
  rw [contents_eq_nil hocc, List.nil_append] at hlist
  exact ⟨t, ht, hwr, runShowing_drains (s := { t with wrC := t.wr }) rfl hlist⟩

/-- Settles O49: a pending SEND stays one, and has room for its ENQ. -/
theorem sendEndsWhateverHappensBetween : Obligations.SendEndsWhateverHappensBetween := by
  intro s s1 s2 arg js h hh ha hf hjs hsend hrun
  have hfirst : Pending (s.fetch (.byte (arg.setWidth 8))).1 s.wr s1 := by
    cases (execSend_room hh ha hf).symm.trans hsend
    exact ⟨h, rfl, hf, rfl⟩
  have hpending := hfirst.runOps hjs hrun
  refine ⟨_, execEnq_held hpending.held hpending.room, ?_, congrArg (· + 1#5) hpending.wr, rfl, rfl⟩
  show (s2.enqueue _).slotRead s.wr = _
  rw [slotRead_enqueue, if_pos (congrArg slotIndex hpending.wr)]
  rfl

end Sys2Proof.Machine
end

section
/-! The two contexts in either order (R143, R160), and ticks in silence (R127, R167). -/

namespace Sys2Proof.Machine

section

variable {s s1 s2 u1 u2 : State} {arg : SymCode}

/-- What a fallback tick FETCHes. -/
def fallbackSymbol (carrierC : Bool) : Symbol := if carrierC then .idle else .silence

/-- A TICK where C sees no block FETCHes the fallback symbol of the carrier it reads, and writes nothing else that a SEND reads. -/
theorem execTick_fetches (h : s.emptyC = true) (he : exec .tick s = .next s1) :
    s1.lastSense = (s.lastSense ^^ (render s.params (fallbackSymbol s.carrierC)).cont) ∧
    s1.out = .emitted (variantOf (render s.params (fallbackSymbol s.carrierC)) s.lastSense) true ∧
    s1.params = s.params ∧ s1.hold = s.hold ∧ s1.fullP = s.fullP := by
  cases hc : s.carrierC with
  | true => cases (execTick_idle h hc).symm.trans he; exact ⟨rfl, rfl, rfl, rfl, rfl⟩
  | false => cases (execTick_silent h hc).symm.trans he; exact ⟨rfl, rfl, rfl, rfl, rfl⟩

/-- What a TICK that drains leaves. -/
def State.drainTick (s : State) : State :=
  State.answer { s.noteCarrier.advance with seqState := .draining } (.emitted (s.slotRead s.rd) true)

/-- A SEND before or after a draining tick: what it reads the tick does not write. -/
theorem execSend_drainTick (he : exec (.send arg) s = .next s1) :
    exec (.send arg) s.drainTick = .next { s1.drainTick with out := s1.out } ∧ s1.emptyC = s.emptyC ∧
      s1.slotRead s1.rd = s.slotRead s.rd := by
  cases hh : s.hold with
  | some blk =>
    have hclosed : exec (.send arg) s = .refused .portBusy := by simp [exec, execSend, State.portOpen, hh]
    cases hclosed.symm.trans he
  | none =>
    cases ha : arg[8] with
    | true =>
      cases (execSend_badSym hh ha).symm.trans he
      exact ⟨execSend_badSym (s := s.drainTick) hh ha, rfl, rfl⟩
    | false =>
      cases hf : s.fullP with
      | true =>
        cases (execSend_full hh ha hf).symm.trans he
        exact ⟨execSend_full (s := s.drainTick) hh ha hf, rfl, rfl⟩
      | false =>
        cases (execSend_room hh ha hf).symm.trans he
        exact ⟨execSend_room (s := s.drainTick) hh ha hf, rfl, rfl⟩

/-- ENQ before or after a draining tick: the slot it writes is not the one the tick reads. -/
theorem execEnq_drainTick (h : s.viewsOk) (hc : s.emptyC = false) (he : exec .enq s = .next s1) :
    exec .enq s.drainTick = .next { s1.drainTick with out := s1.out } ∧ s1.emptyC = s.emptyC ∧
      s1.slotRead s1.rd = s.slotRead s.rd := by
  have hhead : s.fullP = false → ∀ blk, (s.enqueue blk).slotRead s.rd = s.slotRead s.rd := fun hf blk => by
    have hne := slotIndex_wr_ne h hf (occupancy_pos h hc)
    rw [BitVec.add_zero] at hne
    rw [slotRead_enqueue, if_neg hne]
  rcases execEnq_cases s with ⟨hh, hf, e⟩ | ⟨hh, hf, e⟩ | ⟨hh, hf, e⟩ | ⟨blk, hh, hf, e⟩ <;> cases e.symm.trans he
  · refine ⟨(execEnq_full (s := s.drainTick) hf).trans ?_, rfl, rfl⟩
    rw [show s.drainTick.hold = none from hh]
    rfl
  · exact ⟨execEnq_alone (s := s.drainTick) hh hf, rfl, hhead hf _⟩
  · refine ⟨(execEnq_full (s := s.drainTick) hf).trans ?_, rfl, rfl⟩
    rw [show s.drainTick.hold.isSome = true from hh]
    rfl
  · exact ⟨execEnq_held (s := s.drainTick) hh hf, rfl, hhead hf _⟩

/-- A TICK where C sees no block and the carrier off: silence, and the other phase; what made it silent stays (R127). -/
theorem execTick_silence (h : s.wrC = s.rd) (hc : s.carrierC = false) : ∃ t, exec .tick s = .next t ∧
    t.out = .emitted silenceWf true ∧ t.lastSense = !s.lastSense ∧ t.seqState = .silent ∧
    t.wr = s.wr ∧ t.rd = s.rd ∧ t.wrC = s.wrC ∧ t.carrierC = s.carrierC :=
  ⟨_, execTick_silent (beq_iff_eq.2 h) hc, congrArg (Output.emitted · true) s.fetch_silence_block, s.fetch_silence_lastSense,
    rfl, rfl, rfl, rfl, rfl⟩

/-- A phase toggled once more. -/
theorem xor_odd_succ (x : Bool) (n : Nat) : ((!x) ^^ decide (n % 2 = 1)) = (x ^^ decide ((n + 1) % 2 = 1)) := by
  rcases Nat.mod_two_eq_zero_or_one n with h | h <;> simp [h, Nat.add_mod]

theorem runShowing_silence (n : Nat) (h : s.wrC = s.rd) (hc : s.carrierC = false) :
    (runShowing (List.replicate n .tick) s).1 = List.replicate n (.emitted silenceWf true) ∧
    (runShowing (List.replicate n .tick) s).2.lastSense = (s.lastSense ^^ decide (n % 2 = 1)) ∧
    (0 < n → (runShowing (List.replicate n .tick) s).2.seqState = .silent) ∧
    (runShowing (List.replicate n .tick) s).2.wr = s.wr ∧ (runShowing (List.replicate n .tick) s).2.rd = s.rd := by
  induction n generalizing s with
  | zero => exact ⟨rfl, (Bool.xor_false _).symm, fun h0 => absurd h0 (lt_irrefl 0), rfl, rfl⟩
  | succ n ih =>
    obtain ⟨t, he, hout, hsense, hstate, hwr, hrd, hwc, hcc⟩ := execTick_silence h hc
    have hrun : runShowing (List.replicate (n + 1) .tick) s =
        (t.out :: (runShowing (List.replicate n .tick) t).1, (runShowing (List.replicate n .tick) t).2) := by
      simp only [List.replicate_succ, runShowing, he]
    obtain ⟨ihshown, ihsense, ihstate, ihwr, ihrd⟩ := ih (hwc.trans (h.trans hrd.symm)) (hcc.trans hc)
    rw [hrun, ihshown, ihsense, ihwr, ihrd, hout, hsense]
    refine ⟨rfl, xor_odd_succ _ _, fun _ => ?_, hwr, hrd⟩
    cases n with
    | zero => exact hstate
    | succ m => exact ihstate (Nat.succ_pos m)

end

/-- Settles O52: `lastSense` takes both flags in either order, and the block in between shows the phase it found. -/
theorem fallbackTickInThePendingWindow : Obligations.FallbackTickInThePendingWindow := by
  intro s s1 s2 u1 u2 arg hh hf ha hempty hsend htick htick' hsend'
  have hsends : s1.lastSense = (s.lastSense ^^ (render s.params (.byte (arg.setWidth 8))).cont) ∧ s1.params = s.params ∧
      s1.emptyC = true ∧ s1.carrierC = s.carrierC := by
    cases (execSend_room hh ha hf).symm.trans hsend
    exact ⟨rfl, rfl, hempty, rfl⟩
  obtain ⟨hs1, hp1, he1, hc1⟩ := hsends
  obtain ⟨hs2, hout2, -⟩ := execTick_fetches he1 htick
  obtain ⟨hu1, hout1, hparams, hhold, hfull⟩ := execTick_fetches hempty htick'
  have hu2 : u2.lastSense = (u1.lastSense ^^ (render u1.params (.byte (arg.setWidth 8))).cont) := by
    cases (execSend_room (hhold.trans hh) ha (hfull.trans hf)).symm.trans hsend'
    rfl
  refine ⟨?_, fun hc => ?_⟩
  · rw [hs2, hs1, hp1, hc1, hu2, hu1, hparams]
    exact Bool.xor_right_comm _ _ _
  · rw [hout2, hout1, hs1, hp1, hc1, hc]
    exact ⟨rfl, rfl⟩

/-- Settles O53: the tick and the step of a SEND write different elements and read none of each other's. -/
theorem drainingTickAndSendCommute : Obligations.DrainingTickAndSendCommute := by
  intro i s s1 s2 u1 u2 hi h hc h1 h2 h3 h4
  obtain ⟨hafter, hempty, hhead⟩ : exec i s.drainTick = .next { s1.drainTick with out := s1.out } ∧ s1.emptyC = s.emptyC ∧
      s1.slotRead s1.rd = s.slotRead s.rd := by
    rcases hi with ⟨arg, rfl⟩ | rfl
    · exact execSend_drainTick h1
    · exact execEnq_drainTick h hc h1
  cases (execTick_draining hc).symm.trans h3
  cases (execTick_draining (hempty.trans hc)).symm.trans h2
  cases hafter.symm.trans h4
  exact ⟨rfl, congrArg (Output.emitted · true) hhead⟩

/-- Settles O54: each tick leaves what made it silent (`execTick_silence`). -/
theorem silentTicksToggleThePhase : Obligations.SilentTicksToggleThePhase := fun _ n h _ hc => runShowing_silence n h hc

end Sys2Proof.Machine
end

section
/-! A SEND written sample by sample (R110, R129). -/

namespace Sys2Proof.Machine

/-- `u` is `s` with the first `k` samples of `blk`, the block in `hold`, written to the slot at `wr`. -/
structure Writing (s : State) (blk : Block) (k : Nat) (u : State) : Prop where
  held : u.hold = some blk
  index : u.sendIdx.val = k
  ready : u.ready = true
  running : u.rstN = true
  wr : u.wr = s.wr
  written : ∀ (j : Nat) (_ : j < 120), j < k → (u.slotRead s.wr)[j] = blk[j]
  others : ∀ c, slotIndex c ≠ slotIndex s.wr → u.slotRead c = s.slotRead c
  lastSense : u.lastSense = s.lastSense
  rd : u.rd = s.rd

/-- `t` is `s` with the SEND of `blk` ended. -/
structure Sent (s : State) (blk : Block) (t : State) : Prop where
  stored : t.slotRead s.wr = blk
  others : ∀ c, slotIndex c ≠ slotIndex s.wr → t.slotRead c = s.slotRead c
  wr : t.wr = s.wr + 1#5
  wrGray : t.wrGray = gray (s.wr + 1#5)
  hold : t.hold = none
  sendIdx : t.sendIdx = 0
  answered : t.pRspValid = true
  status : t.pRsp.extractLsb' 0 3 = 0#3
  lastSense : t.lastSense = s.lastSense
  rd : t.rd = s.rd

section

variable {s u : State} {blk : Block} {k : Nat}

/-- One P clock of step 2 while samples are left to write. -/
theorem writeStepB_writes (h : u.sendIdx.val < 120) : u.writeStepB blk =
    { u.ramWrite u.wr ⟨u.sendIdx.val, h⟩ blk[u.sendIdx.val] with
      sendIdx := ⟨u.sendIdx.val + 1, by omega⟩, pRspValid := false } := dif_pos h

/-- The P clock after the last write. -/
theorem writeStepB_ends (h : u.sendIdx.val = 120) :
    u.writeStepB blk = State.respondB { u.setWr (u.wr + 1#5) with hold := none, sendIdx := 0 } .ok :=
  dif_neg (by omega)

/-- An edge of the P clock between the two steps of a SEND. -/
theorem Writing.edge (h : Writing s blk k u) (pins : PPins) (x : Cursor) :
    pEdge pins x u = .next (((u.writeStepB blk).pShift x).answer .quiet) := by
  rw [pEdge_running pins x h.ready h.running, pWork_of_some pins h.held]

/-- One sample more. -/
theorem Writing.step (h : Writing s blk k u) (hk : k < 120) (pins : PPins) (x : Cursor) :
    ∃ v, pEdge pins x u = .next v ∧ Writing s blk (k + 1) v := by
  have hidx : u.sendIdx.val < 120 := h.index ▸ hk
  refine ⟨_, h.edge pins x, ?_⟩
  rw [writeStepB_writes hidx]
  refine ⟨h.held, congrArg (· + 1) h.index, h.ready, h.running, h.wr, fun j hj hjk => ?_, fun c hc => ?_, h.lastSense, h.rd⟩
  · show ((u.slotWrite u.wr ((u.slotRead u.wr).set u.sendIdx.val blk[u.sendIdx.val])).slotRead s.wr)[j] = blk[j]
    have hslot : (u.slotWrite u.wr ((u.slotRead u.wr).set u.sendIdx.val blk[u.sendIdx.val])).slotRead s.wr = _ :=
      (slotRead_slotWrite u u.wr s.wr _).trans (if_pos (congrArg slotIndex h.wr))
    rw [hslot, Vector.getElem_set]
    split
    · rename_i hj'
      simp only [hj']
    · rename_i hj'
      rw [h.wr]
      exact h.written j hj (by have hi := h.index; omega)
  · show (u.slotWrite u.wr _).slotRead c = _
    rw [slotRead_slotWrite, h.wr, if_neg (Ne.symm hc)]
    exact h.others c hc

/-- The clock after the last sample. -/
theorem Writing.last (h : Writing s blk 120 u) (pins : PPins) (x : Cursor) :
    ∃ t, pEdge pins x u = .next t ∧ Sent s blk t := by
  refine ⟨_, h.edge pins x, ?_⟩
  rw [writeStepB_ends h.index, h.wr]
  exact ⟨Vector.ext fun j hj => h.written j hj hj, h.others, rfl, rfl, rfl, rfl, rfl, (responseWord_fields .ok _ _).1, h.lastSense,
    h.rd⟩

/-- The clocks that are left end the SEND. -/
theorem Writing.run {es : List (PPins × Cursor)} (h : Writing s blk k u) (hlen : k + es.length = 121) (hk : k ≤ 120) :
    ∃ t, pEdges es u = .next t ∧ Sent s blk t := by
  induction es generalizing u k with
  | nil => simp at hlen; omega
  | cons e rest ih =>
    rw [List.length_cons] at hlen
    by_cases hlast : k = 120
    · subst hlast
      obtain rfl : rest = [] := List.eq_nil_of_length_eq_zero (by omega)
      obtain ⟨t, ht, hsent⟩ := h.last e.1 e.2
      exact ⟨t, by rw [pEdges, ht]; rfl, hsent⟩
    · obtain ⟨v, hv, hwriting⟩ := h.step (by omega) e.1 e.2
      obtain ⟨t, ht, hsent⟩ := ih hwriting (by omega) (by omega)
      exact ⟨t, by rw [pEdges, hv]; exact ht, hsent⟩

end

/-- Settles O57: 120 clocks write a sample each, and the one after them ends the SEND. -/
theorem clockedSendIsTheEnq : Obligations.ClockedSendIsTheEnq := by
  intro s blk es hh hidx hr hq hlen
  have hstart : Writing s blk 0 s := ⟨hh, congrArg Fin.val hidx, hr, hq, rfl, fun j _ hj => absurd hj (Nat.not_lt_zero j),
    fun _ _ => rfl, rfl, rfl⟩
  obtain ⟨t, ht, hsent⟩ := hstart.run (es := es) (by omega) (by omega)
  exact ⟨t, ht, hsent.stored, hsent.others, hsent.wr, hsent.wrGray, hsent.hold, hsent.sendIdx, hsent.answered, hsent.status,
    hsent.lastSense, hsent.rd⟩

end Sys2Proof.Machine
end

section
/-! A tick emitted sample by sample (R128). -/

namespace Sys2Proof.Machine

/-- The sample a state emits at index `j`. -/
def State.sampleAt (s : State) (j : Fin 120) : Sample := State.sampleB { s with sidx := j }

/-- `u` is `s`, in which a tick has started, after `k` samples of the block. -/
structure Emitting (s : State) (k : Nat) (u : State) : Prop where
  busy : u.busy = true
  ready : u.ready = true
  running : u.rstN = true
  index : u.sidx.val = min k 119
  last : u.cLast = decide (k = 120)
  /-- The last sample presented. -/
  presented : ∀ j : Fin 120, k = j.val + 1 → u.cValid = true ∧ u.cData = s.sampleAt j
  samples : ∀ j, u.sampleAt j = s.sampleAt j
  src : u.src = s.src
  rd : u.rd = s.rd
  slots : u.slots = s.slots
  lastSense : u.lastSense = s.lastSense
  seqState : u.seqState = s.seqState

/-- `t` is `s`, in which a tick had started, with the block emitted. -/
structure Emitted (s t : State) : Prop where
  idle : t.busy = false
  quiet : t.cValid = false
  rd : t.rd = if s.src = .draining then s.rd + 1#5 else s.rd
  slots : t.slots = s.slots
  lastSense : t.lastSense = s.lastSense
  seqState : t.seqState = s.seqState

section

variable {s u : State} {k : Nat}

/-- An edge of the C clock without a tick. -/
theorem cEdge_noTick (x : Cursor) (v : Bool) (hr : u.ready = true) (hq : u.rstN = true) :
    cEdge ⟨false, false⟩ x v u = .next (((u.cWork ⟨false, false⟩).cShift x v).answer .quiet) :=
  cEdge_running x v hr hq (by simp)

theorem cWork_presents (hb : u.busy = true) (hl : u.cLast = false) : u.cWork ⟨false, false⟩ = u.presentB := by
  simp [State.cWork, hb, hl]

theorem cWork_finishes (hb : u.busy = true) (hl : u.cLast = true) : u.cWork ⟨false, false⟩ = u.finishB := by
  simp [State.cWork, hb, hl]

/-- What `presentB` does to the index. -/
theorem presentB_index (u : State) : u.presentB.sidx.val = min (u.sidx.val + 1) 119 := by
  unfold State.presentB
  dsimp only
  split
  · show u.sidx.val + 1 = _
    omega
  · have hlt := u.sidx.isLt
    omega

/-- One sample more. -/
theorem Emitting.step (h : Emitting s k u) (hk : k < 120) (x : Cursor) (v : Bool) :
    ∃ w, cEdge ⟨false, false⟩ x v u = .next w ∧ Emitting s (k + 1) w := by
  have hnot : u.cLast = false := h.last.trans (decide_eq_false (by omega))
  have hidx : u.sidx.val = k := h.index.trans (by omega)
  refine ⟨_, cEdge_noTick x v h.ready h.running, ?_⟩
  rw [cWork_presents h.busy hnot]
  refine ⟨h.busy, h.ready, h.running, (presentB_index u).trans (by rw [hidx]), ?_, fun j hj => ⟨rfl, ?_⟩, h.samples, h.src, h.rd,
    h.slots, h.lastSense, h.seqState⟩
  · show decide (u.sidx.val = 119) = decide (k + 1 = 120)
    rw [hidx]
    exact decide_eq_decide.2 (by omega)
  · have hj' : u.sidx = j := Fin.ext (by omega)
    rw [← h.samples j, ← hj']
    rfl

/-- The clock after sample 119. -/
theorem Emitting.finish (h : Emitting s 120 u) (x : Cursor) (v : Bool) :
    ∃ t, cEdge ⟨false, false⟩ x v u = .next t ∧ Emitted s t := by
  refine ⟨_, cEdge_noTick x v h.ready h.running, ?_⟩
  rw [cWork_finishes h.busy (h.last.trans rfl)]
  have hsrc := h.src
  unfold State.finishB
  cases hs : u.src with
  | draining =>
    rw [hs] at hsrc
    exact ⟨rfl, rfl, (congrArg (· + 1#5) h.rd).trans (if_pos hsrc.symm).symm, h.slots, h.lastSense, h.seqState⟩
  | _ =>
    rw [hs] at hsrc
    exact ⟨rfl, rfl, h.rd.trans (if_neg (by rw [← hsrc]; simp)).symm, h.slots, h.lastSense, h.seqState⟩

/-- Clocks without pause present a sample each. -/
theorem Emitting.run {es : List (Cursor × Bool)} (h : Emitting s k u) (hlen : k + es.length ≤ 120) :
    ∃ w, cEdges es u = .next w ∧ Emitting s (k + es.length) w := by
  induction es generalizing u k with
  | nil => exact ⟨u, rfl, h⟩
  | cons e rest ih =>
    rw [List.length_cons] at hlen
    obtain ⟨w, hw, hemitting⟩ := h.step (by omega) e.1 e.2
    obtain ⟨t, ht, hrest⟩ := ih hemitting (by omega)
    rw [Nat.add_assoc, Nat.add_comm 1] at hrest
    exact ⟨t, by rw [cEdges, hw]; exact ht, hrest⟩

/-- The clocks that are left end the emission. -/
theorem Emitting.runOut {es : List (Cursor × Bool)} (h : Emitting s k u) (hlen : k + es.length = 121) (hk : k ≤ 120) :
    ∃ t, cEdges es u = .next t ∧ Emitted s t := by
  induction es generalizing u k with
  | nil => simp at hlen; omega
  | cons e rest ih =>
    rw [List.length_cons] at hlen
    by_cases hlast : k = 120
    · subst hlast
      obtain rfl : rest = [] := List.eq_nil_of_length_eq_zero (by omega)
      obtain ⟨t, ht, hend⟩ := h.finish e.1 e.2
      exact ⟨t, by rw [cEdges, ht]; rfl, hend⟩
    · obtain ⟨w, hw, hemitting⟩ := h.step (by omega) e.1 e.2
      obtain ⟨t, ht, hend⟩ := ih hemitting (by omega) (by omega)
      exact ⟨t, by rw [cEdges, hw]; exact ht, hend⟩

/-! The start of a tick -/

/-- The formula of R128 item 2 is the idle block in the variant chosen. -/
theorem idleSample_eq (p : Params) (pol : Bool) (k : Fin 120) :
    idleSample p pol k = (variantOf (render p .idle) pol)[k] := by
  have hplain := idleWf_getElem p k
  have hvariant : (variantOf (render p .idle) pol)[k] = if pol then -(idleWf p)[k] else (idleWf p)[k] := by
    cases pol with
    | false => rfl
    | true => exact render_b_getElem p .idle k
  rw [hvariant, hplain]
  unfold idleSample
  rcases Nat.mod_two_eq_zero_or_one (k.val / 10) with h | h <;> cases pol <;> simp [h]

/-- What the start of a tick has chosen, compared with the Level A tick of the same state. -/
structure Starts (s v : State) : Prop where
  samples : ∀ j, v.sampleAt j = s.emitBlock.1[j]
  rd : (if v.src = .draining then v.rd + 1#5 else v.rd) = s.emitBlock.2.rd
  slots : v.slots = s.slots
  lastSense : v.lastSense = s.emitBlock.2.lastSense
  seqState : v.seqState = s.emitBlock.2.seqState
  busy : v.busy = true
  index : v.sidx = 0
  last : v.cLast = false
  ready : v.ready = s.ready
  running : v.rstN = s.rstN

/-- A `c_tick` pulse chooses the source, and makes the FETCH of a fallback block, as the Level A tick does (R116, R128 item 1). -/
theorem startTickB_starts (h : s.Inv) : Starts s s.startTickB := by
  have hempty := emptyGray_eq h.rdCode
  rcases emitBlock_cases s with ⟨hc, e⟩ | ⟨hc, hon, e⟩ | ⟨hc, hoff, e⟩
  · have hchoice : chooseState s.emptyGray s.carrierC = .draining := by rw [hempty, hc]; cases s.carrierC <;> rfl
    unfold State.startTickB
    rw [hchoice]
    exact ⟨fun j => by rw [e]; rfl, by rw [e]; rfl, rfl, by rw [e]; rfl, by rw [e], rfl, rfl, rfl, rfl, rfl⟩
  · have hchoice : chooseState s.emptyGray s.carrierC = .carrierIdle := by rw [hempty, hc, hon]; rfl
    unfold State.startTickB
    rw [hchoice]
    exact ⟨fun j => by rw [e]; exact idleSample_eq s.params s.lastSense j, by rw [e]; rfl, rfl, by rw [e], by rw [e], rfl, rfl, rfl,
      rfl, rfl⟩
  · have hchoice : chooseState s.emptyGray s.carrierC = .silent := by rw [hempty, hc, hoff]; rfl
    unfold State.startTickB
    rw [hchoice]
    refine ⟨fun j => ?_, by rw [e]; rfl, rfl, by rw [e], by rw [e], rfl, rfl, rfl, rfl, rfl⟩
    rw [e]
    show 0#16 = (s.fetch .silence).1[j]
    rw [State.fetch_silence_block, silenceWf_getElem]

/-- The edge of the tick, after which the emission is under way. -/
theorem tickEdge_emitting {s0 : State} {pause : Bool} {x : Cursor} {v : Bool} (h : s.Inv) (hr : s.ready = true)
    (hq : s.rstN = true) (hb : s.busy = false) (he : cEdge ⟨true, pause⟩ x v s = .next s0) : Starts s s0 ∧ Emitting s0 0 s0 := by
  have hstart := startTickB_starts h
  have hedge : cEdge ⟨true, pause⟩ x v s = .next ((s.startTickB.cShift x v).answer .quiet) :=
    cEdge_running x v hr hq fun _ => hb
  cases hedge.symm.trans he
  refine ⟨⟨hstart.samples, hstart.rd, hstart.slots, hstart.lastSense, hstart.seqState, hstart.busy, hstart.index, hstart.last,
    hstart.ready, hstart.running⟩, ⟨hstart.busy, hstart.ready.trans hr, hstart.running.trans hq, congrArg Fin.val hstart.index,
    hstart.last, fun j hj => absurd hj (by omega), fun _ => rfl, rfl, rfl, rfl, rfl, rfl⟩⟩

end

/-- Settles O58: the tick's edge chooses as Level A does, and the clocks after it present the samples of what was chosen. -/
theorem clockedTickEmitsTheSameBlock : Obligations.ClockedTickEmitsTheSameBlock := by
  intro s s0 pause wrIn carIn es h hr hq hb he
  obtain ⟨hstart, hemitting⟩ := tickEdge_emitting h hr hq hb he
  refine ⟨fun k hlen => ?_, fun hlen => ?_⟩
  · obtain ⟨t, ht, hafter⟩ := hemitting.run (es := es) (by omega)
    rw [Nat.zero_add, hlen] at hafter
    obtain ⟨hvalid, hdata⟩ := hafter.presented k rfl
    refine ⟨t, ht, hvalid, hdata.trans (hstart.samples k), hafter.last.trans (decide_eq_decide.2 (by omega)), hafter.busy⟩
  · obtain ⟨t, ht, hend⟩ := hemitting.runOut (es := es) (by omega) (by omega)
    exact ⟨t, ht, hend.idle, hend.quiet, hend.rd.trans hstart.rd, hend.lastSense.trans hstart.lastSense,
      hend.seqState.trans hstart.seqState, slotRead_congr (hend.slots.trans hstart.slots)⟩

end Sys2Proof.Machine
end

section
/-! Edges of either clock and of both (R48, R49, R143): what two edges carry across, and what an edge of both clocks leaves. -/

namespace Sys2Proof.Machine

section

variable {s : State} {pins : PPins} {cpins : CPins} {pFirst : Bool} {rest : List Turn}

/-! The work of an edge leaves the requests to come aside -/

theorem sendAnswerB_withTurns (full : Bool) (arg : SymCode) (l : List Turn) :
    sendAnswerB ((s.withTurns l).sendStep1 full arg) = (sendAnswerB (s.sendStep1 full arg)).withTurns l := by
  unfold State.sendStep1
  cases byteOf arg with
  | none => rfl
  | some b => cases full <;> rfl

theorem acceptB_withTurns (w : OpWord) (l : List Turn) : (s.withTurns l).acceptB w = (s.acceptB w).withTurns l := by
  unfold State.acceptB
  split
  · exact sendAnswerB_withTurns s.fullGray _ l
  all_goals rfl

theorem writeStepB_withTurns (blk : Block) (l : List Turn) :
    (s.withTurns l).writeStepB blk = (s.writeStepB blk).withTurns l := by
  show (if h : s.sendIdx.val < 120 then _ else _) = State.withTurns (if h : s.sendIdx.val < 120 then _ else _) l
  split <;> rfl

theorem pWork_withTurns (s : State) (pins : PPins) (l : List Turn) :
    (s.withTurns l).pWork pins = (s.pWork pins).withTurns l := by
  cases hh : s.hold with
  | some blk =>
    rw [pWork_of_some pins hh, pWork_of_some (s := s.withTurns l) pins hh]
    exact writeStepB_withTurns blk l
  | none =>
    rw [pWork_of_none pins hh, pWork_of_none (s := s.withTurns l) pins hh]
    split
    · exact acceptB_withTurns pins.cmd l
    · rfl

theorem cWork_withTurns (s : State) (cpins : CPins) (l : List Turn) :
    (s.withTurns l).cWork cpins = (s.cWork cpins).withTurns l := by
  have hstart : (s.withTurns l).startTickB = s.startTickB.withTurns l := by
    have hchoice : chooseState (s.withTurns l).emptyGray (s.withTurns l).carrierC = chooseState s.emptyGray s.carrierC := rfl
    unfold State.startTickB
    rw [hchoice]
    cases chooseState s.emptyGray s.carrierC <;> rfl
  have hfinish : (s.withTurns l).finishB = s.finishB.withTurns l := by
    have hsrc : (s.withTurns l).src = s.src := rfl
    unfold State.finishB
    rw [hsrc]
    cases s.src <;> rfl
  have hpresent : (s.withTurns l).presentB = s.presentB.withTurns l := rfl
  unfold State.cWork
  rw [hstart, hfinish, hpresent, State.withTurns_busy, State.withTurns_cLast]
  split
  · rfl
  · split
    · split
      · rfl
      · split <;> rfl
    · rfl

theorem bothWork_withTurns (s : State) (pins : PPins) (cpins : CPins) (pFirst : Bool) (l : List Turn) :
    (s.withTurns l).bothWork pins cpins pFirst = (s.bothWork pins cpins pFirst).withTurns l := by
  cases pFirst with
  | true => exact (congrArg (State.cWork · cpins) (pWork_withTurns s pins l)).trans (cWork_withTurns _ cpins l)
  | false => exact (congrArg (State.pWork · pins) (cWork_withTurns s cpins l)).trans (pWork_withTurns _ pins l)

/-! Both sides at once -/

theorem SameForP.refl (s : State) : SameForP s s := ⟨rfl, rfl, rfl, rfl, rfl, rfl, rfl, rfl, rfl, rfl, rfl⟩

theorem SameForC.refl (s : State) : SameForC s s :=
  ⟨rfl, rfl, rfl, rfl, rfl, rfl, rfl, rfl, rfl, rfl, rfl, rfl, rfl, rfl, fun _ _ => rfl⟩

/-- The slot P writes is not the one being emitted: P has room for its block, and the emitted one is still queued (R41 item 3). -/
theorem State.Inv.slotsApart (h : s.Inv) (hheld : s.hold.isSome = true) (hsrc : s.src = .draining) (hb : s.busy = true) :
    slotIndex s.wr ≠ slotIndex s.rd := by
  have hne := slotIndex_wr_ne h.viewsOk (h.holdRoom hheld) (occupancy_pos h.viewsOk (h.emission hb hsrc))
  rwa [BitVec.add_zero] at hne

/-- `w` holds P's registers as `p` does, and C's, but for those that hang on `lastSense`, as `c` does. -/
structure Merges (p c w : State) : Prop where
  slots : w.slots = p.slots
  wr : w.wr = p.wr
  wrGray : w.wrGray = p.wrGray
  carrier : w.carrier = p.carrier
  sendIdx : w.sendIdx = p.sendIdx
  pRspValid : w.pRspValid = p.pRspValid
  pRsp : w.pRsp = p.pRsp
  holds : w.hold.isSome = p.hold.isSome
  rd : w.rd = c.rd
  rdGray : w.rdGray = c.rdGray
  seqState : w.seqState = c.seqState
  src : w.src = c.src
  sidx : w.sidx = c.sidx
  busy : w.busy = c.busy
  cValid : w.cValid = c.cValid
  cData : w.cData = c.cData
  cLast : w.cLast = c.cLast

/-- Whichever side reaches `lastSense` first, each side's registers are as its own edge alone leaves them. -/
theorem bothWork_merges (h : s.Inv) (pins : PPins) (cpins : CPins) (pFirst : Bool) :
    Merges (s.pWork pins) (s.cWork cpins) (s.bothWork pins cpins pFirst) := by
  cases pFirst with
  | true =>
    have kept := cWork_sameForP (s.pWork pins) cpins
    obtain ⟨hrd, hrdGray, hseq, hsrc, hsidx, hbusy, hvalid, hdata, hlast, -, -⟩ :=
      cWork_agrees (pWork_sameForC s pins h.slotsApart) cpins
    exact ⟨kept.slots, kept.wr, kept.wrGray, kept.carrier, kept.sendIdx, kept.pRspValid, kept.pRsp, congrArg _ kept.hold, hrd,
      hrdGray, hseq, hsrc, hsidx, hbusy, hvalid, hdata, hlast⟩
  | false =>
    have kept := pWork_sameForC (s.cWork cpins) pins (h.cWork cpins).slotsApart
    obtain ⟨hslots, hwr, hwrGray, hcarrier, hidx, hvalid, hrsp, hholds, -, -, -⟩ :=
      pWork_agrees (cWork_sameForP s cpins) pins
    exact ⟨hslots, hwr, hwrGray, hcarrier, hidx, hvalid, hrsp, hholds, kept.rd, kept.rdGray, kept.seqState, kept.src, kept.sidx,
      kept.busy, kept.cValid, kept.cData, kept.cLast⟩

/-- A phase that two sides toggle, the second starting from what the first left. -/
theorem xor_both {x p c w : Bool} (h : (w ^^ p) = (c ^^ x)) : w = (x ^^ (x ^^ p) ^^ (x ^^ c)) := by
  revert x p c w; decide

/-- `lastSense` takes the FETCHes of both sides (R49, R143). -/
theorem bothWork_lastSense (h : s.Inv) (pins : PPins) (cpins : CPins) (pFirst : Bool) :
    (s.bothWork pins cpins pFirst).lastSense =
      (s.lastSense ^^ (s.lastSense ^^ (s.pWork pins).lastSense) ^^ (s.lastSense ^^ (s.cWork cpins).lastSense)) := by
  cases pFirst with
  | true =>
    obtain ⟨-, -, -, -, -, -, -, -, -, hsense, -⟩ := cWork_agrees (pWork_sameForC s pins h.slotsApart) cpins
    exact xor_both hsense
  | false =>
    obtain ⟨-, -, -, -, -, -, -, -, hsense, -, -⟩ := pWork_agrees (cWork_sameForP s cpins) pins
    rw [Bool.xor_right_comm]
    exact xor_both hsense

/-- A block in `hold` before is dealt with by P alone. -/
theorem bothWork_hold (pins : PPins) (cpins : CPins) (pFirst : Bool) (hh : s.hold ≠ none) :
    (s.bothWork pins cpins pFirst).hold = (s.pWork pins).hold := by
  cases pFirst with
  | true => exact (cWork_sameForP (s.pWork pins) cpins).hold
  | false =>
    obtain ⟨-, -, -, -, -, -, -, -, -, hheld, -⟩ := pWork_agrees (cWork_sameForP s cpins) pins
    exact hheld hh

/-- A SEND accepted at the edge holds the variant of the phase before or after C's FETCH. -/
theorem bothWork_send {arg : SymCode} (h : s.Inv) (hh : s.hold = none) (hv : pins.valid = true)
    (hd : decode pins.cmd = .ok (.send arg)) (ha : arg[8] = false) (hf : s.fullP = false) :
    (s.bothWork pins cpins pFirst).hold = some (variantOf (render s.params (.byte (arg.setWidth 8)))
      (if pFirst then s.lastSense else (s.cWork cpins).lastSense)) := by
  have hroom : s.fullGray = false := (fullGray_eq h.wrCode).trans hf
  cases pFirst with
  | true =>
    obtain ⟨-, -, -, -, -, -, -, -, -, -, hsend⟩ := pWork_agrees (SameForP.refl s) pins
    exact (cWork_sameForP (s.pWork pins) cpins).hold.trans (hsend arg hh hv hd ha hroom)
  | false =>
    obtain ⟨-, -, -, -, -, -, -, -, -, -, hsend⟩ := pWork_agrees (cWork_sameForP s cpins) pins
    exact hsend arg hh hv hd ha hroom

/-- `pol` at a fallback tick is the phase before or after P's FETCH. -/
theorem bothWork_pol (h : s.Inv) (pins : PPins) (cpins : CPins) (pFirst : Bool) :
    (s.bothWork pins cpins pFirst).pol = if cpins.tick ∧ s.emptyC
      then (if pFirst then (s.pWork pins).lastSense else s.lastSense) else s.pol := by
  rw [← emptyGray_eq h.rdCode]
  cases pFirst with
  | true =>
    obtain ⟨-, -, -, -, -, -, -, -, -, -, hpol⟩ := cWork_agrees (pWork_sameForC s pins h.slotsApart) cpins
    exact hpol
  | false =>
    have kept := pWork_sameForC (s.cWork cpins) pins (h.cWork cpins).slotsApart
    obtain ⟨-, -, -, -, -, -, -, -, -, -, hpol⟩ := cWork_agrees (SameForC.refl s) cpins
    exact kept.pol.trans hpol

theorem bothWork_carrierS1 (h : s.Inv) (pins : PPins) (cpins : CPins) (pFirst : Bool) :
    (s.bothWork pins cpins pFirst).carrierS1 = s.carrierS1 := by
  cases pFirst with
  | true => exact (cWork_sameForP (s.pWork pins) cpins).carrierS1.trans (pWork_sameForC s pins h.slotsApart).carrierS1
  | false =>
    exact (pWork_sameForC (s.cWork cpins) pins (h.cWork cpins).slotsApart).carrierS1.trans (cWork_sameForP s cpins).carrierS1

/-! One edge after the other -/

/-- The fields that an edge of the P clock shifts, and those it needs for the next. -/
theorem step_pClk_crosses (ht : s.turns = .pClk pins :: rest) (hr : s.ready = true) (hq : s.rstN = true) :
    ∃ t, step s = .next t ∧ t.rdP = ungray s.rdGrayS1 ∧ t.rdGrayS1 = s.rdGray ∧ t.rd = s.rd ∧ t.turns = rest ∧
      t.ready = true ∧ t.rstN = true := by
  obtain ⟨-, hrd, -, -, hstage, -, -, -, hready, hrst, hturns, -, -⟩ := pWork_moves (s.withTurns rest) pins
  exact ⟨_, step_pClk ht hr hq, congrArg ungray hstage, rfl, hrd, hturns, hready.trans hr, hrst.trans hq⟩

/-- The fields that an edge of the C clock without a tick shifts, and those it needs for the next. -/
theorem step_cClk_crosses {pause : Bool} (ht : s.turns = .cClk ⟨false, pause⟩ :: rest) (hr : s.ready = true)
    (hq : s.rstN = true) : ∃ t, step s = .next t ∧ t.wrC = ungray s.wrGrayS1 ∧ t.wrGrayS1 = s.wrGray ∧
      t.carrierC = s.carrierS1 ∧ t.carrierS1 = s.carrier ∧ t.wr = s.wr ∧ t.carrier = s.carrier ∧ t.turns = rest ∧
      t.ready = true ∧ t.rstN = true := by
  obtain ⟨-, hwr, -, -, hstage, -, -, -, -, hcarrier, -, hcarrierS1, hready, hrst, hturns, -⟩ :=
    cWork_moves (s.withTurns rest) ⟨false, pause⟩
  refine ⟨_, (step_of_turns ht).trans (cEdge_running (s := s.withTurns rest) _ _ hr hq (by simp)), congrArg ungray hstage, rfl,
    hcarrierS1, rfl, hwr, hcarrier, hturns, hready.trans hr, hrst.trans hq⟩

/-- What an edge of both clocks leaves, the requests to come aside: each first stage samples the value before or after the other side's
work. -/
def State.bothShifted (s : State) (pins : PPins) (cpins : CPins) (cross : CrossChoice) : State :=
  ((s.bothWork pins cpins cross.pFirst).pShift
    (if cross.rdNew then (s.bothWork pins cpins cross.pFirst).rdGray else s.rdGray)).cShift
    (if cross.wrNew then (s.bothWork pins cpins cross.pFirst).wrGray else s.wrGray)
    (if cross.carrierNew then (s.bothWork pins cpins cross.pFirst).carrier else s.carrier)

theorem step_bothClk {cross : CrossChoice} (ht : s.turns = .bothClk pins cpins cross :: rest) (hr : s.ready = true)
    (hq : s.rstN = true) (hb : cpins.tick = true → s.busy = false) :
    step s = .next (((s.bothShifted pins cpins cross).withTurns rest).answer .quiet) := by
  refine (step_of_turns ht).trans ((bothEdges_running (s := s.withTurns rest) pins cross hr hq hb).trans ?_)
  rw [bothWork_withTurns]
  rfl

end

/-- Settles O60: two edges shift a code through both stages; and an edge of both clocks is the shift after the work of both sides, in
which each side finds of the other's work nothing but `lastSense`. -/
theorem twoEdgesCarryACursorAcross : Obligations.TwoEdgesCarryACursorAcross := by
  refine ⟨fun s rest h hq hr => ⟨fun p1 p2 ht => ?twoP, fun a b ht => ?twoC⟩, fun s rest pins cpins cross h hq hr hb ht => ?both⟩
  case twoP =>
    obtain ⟨t, ht1, hview, hstage, hrd, hturns, hr1, hq1⟩ := step_pClk_crosses ht hr hq
    obtain ⟨u, hu, hview2, -, hrd2, -⟩ := step_pClk_crosses hturns hr1 hq1
    exact ⟨t, u, ht1, hu, hview, hstage, by rw [hview2, hstage, h.rdCode, ungray_gray], hrd2.trans hrd⟩
  case twoC =>
    obtain ⟨t, ht1, hview, hstage, hcarC, hcarS, hwr, hcar, hturns, hr1, hq1⟩ := step_cClk_crosses ht hr hq
    obtain ⟨u, hu, hview2, -, hcarC2, -, hwr2, hcar2, -⟩ := step_cClk_crosses hturns hr1 hq1
    exact ⟨t, u, ht1, hu, hview, hstage, hcarC, hcarS, by rw [hview2, hstage, h.wrCode, ungray_gray], hcarC2.trans hcarS,
      hwr2.trans hwr, hcar2.trans hcar⟩
  case both =>
    have m := bothWork_merges h pins cpins cross.pFirst
    have moves := bothWork_workMoves s pins cpins cross.pFirst
    have hparams := bothWork_params s pins cpins cross.pFirst
    have hcarrierS1 := bothWork_carrierS1 h pins cpins cross.pFirst
    have hsense := bothWork_lastSense h pins cpins cross.pFirst
    have hhold := bothWork_hold (s := s) pins cpins cross.pFirst
    have hsend := fun arg => bothWork_send (pins := pins) (cpins := cpins) (pFirst := cross.pFirst) (arg := arg) h
    have hpol := bothWork_pol h pins cpins cross.pFirst
    refine ⟨_, _, _, step_bothClk ht hr hq hb, pEdge_running pins _ hr hq, cEdge_running _ _ hr hq hb, ?_⟩
    unfold State.bothShifted
    generalize s.bothWork pins cpins cross.pFirst = w at *
    generalize s.pWork pins = p at *
    generalize s.cWork cpins = c at *
    exact ⟨rfl, hparams, ⟨congrArg ungray moves.rdGrayS1, congrArg ungray moves.wrGrayS1, hcarrierS1⟩,
      ⟨congrArg (if cross.rdNew then · else s.rdGray) m.rdGray, congrArg (if cross.wrNew then · else s.wrGray) m.wrGray,
        congrArg (if cross.carrierNew then · else s.carrier) m.carrier⟩,
      ⟨m.slots, m.wr, m.wrGray, m.carrier, m.sendIdx, m.pRspValid, m.pRsp, m.holds⟩,
      ⟨m.rd, m.rdGray, m.seqState, m.src, m.sidx, m.busy, m.cValid, m.cData, m.cLast⟩, hsense, hhold, hsend, hpol⟩

end Sys2Proof.Machine
end
